-- ==== Sys2Proof/Word.lean ====
section
/-! DEFINITION. Word.lean: the bit vectors that the spec itself treats as bits (spec/00_scope.md R9 to R11). -/

namespace Sys2Proof

/-- One byte of a sensor group or of a bus word. -/
abbrev Byte := BitVec 8

/-- One 32-bit bus word (R9: "Every register is 32 bits wide unless it is named as a 64-bit pair"). -/
abbrev Word := BitVec 32

/-- The 64-bit pattern of an FX value, Q31.32 in two's complement (R11; 40_numerics.md R120). Its integer is `toInt`. -/
abbrev Fx := BitVec 64

/-- The 16-bit unsigned raw word of a sensor group (40_numerics.md R120). -/
abbrev Raw := BitVec 16

/-- A byte offset in the 4096-byte register window (20_memory.md R60: offsets 0x000 to 0xFFF). -/
abbrev Offset := BitVec 12

end Sys2Proof
end

