-- ==== Sys2Proof/Syntax.lean ====
section
/-! DEFINITION. Syntax.lean: the commands, one constructor per row of spec/opcode_table.json (30_encoding.md R96). -/

namespace Sys2Proof

/-- The SRC field (30_encoding.md R93): where GET_T, AH, TOL_T and TOL_H read their physical inputs. -/
inductive Src where
  /-- SRC = 0: the cached state, TEMP and RH. -/
  | cached
  /-- SRC = 1: the operand registers, OPA (temperature) and OPB (humidity). -/
  | operand
deriving DecidableEq, Repr

/-- A command of the block. The docstring of each constructor is its row's mnemonic and the rule of its meaning. -/
inductive Instr where
  /-- NOP (R220) -/
  | nop
  /-- CRC_GEN.T (R151) -/
  | crcGenT
  /-- CRC_GEN.H (R151) -/
  | crcGenH
  /-- CRC_CHK.T (R152) -/
  | crcChkT
  /-- CRC_CHK.H (R152) -/
  | crcChkH
  /-- CONV_T (R162) -/
  | convT
  /-- CONV_H (R163) -/
  | convH
  /-- CAL_T (R171) -/
  | calT
  /-- CAL_H (R172) -/
  | calH
  /-- FRAME (R180) -/
  | frame
  /-- GET_T.C (R164) -/
  | getTC (src : Src)
  /-- GET_T.F (R164) -/
  | getTF (src : Src)
  /-- GET_T.K (R164) -/
  | getTK (src : Src)
  /-- AH.MMHG (R193) -/
  | ahMmhg (src : Src)
  /-- AH.TORR (R193) -/
  | ahTorr (src : Src)
  /-- AH.PA (R193) -/
  | ahPa (src : Src)
  /-- AH.BAR (R193) -/
  | ahBar (src : Src)
  /-- AH.AT (R193) -/
  | ahAt (src : Src)
  /-- AH.ATM (R193) -/
  | ahAtm (src : Src)
  /-- AH.MH2O (R193) -/
  | ahMh2o (src : Src)
  /-- AH.PSI (R193) -/
  | ahPsi (src : Src)
  /-- AH.SELn (R193): `sel` is the SEL field itself, an unrecognised unit selector, 8 to 15 -/
  | ahSel (sel : BitVec 4) (src : Src)
  /-- TOL_T.C (R203) -/
  | tolTC (src : Src)
  /-- TOL_T.F (R203) -/
  | tolTF (src : Src)
  /-- TOL_T.K (R203) -/
  | tolTK (src : Src)
  /-- TOL_H (R206) -/
  | tolH (src : Src)
deriving DecidableEq, Repr

end Sys2Proof
end

