-- ==== Sys2Proof/WellFormed.lean ====
section
/-! DEFINITION. WellFormed.lean: which terms of Instr are commands of the block. -/

namespace Sys2Proof

/-- The one operand that the syntax lets take a value its row does not: AH.SELn has n in 8 to 15
(30_encoding.md R96, R100); SEL 0 to 7 of AH are rows of their own. -/
def Instr.wf (i : Instr) : Bool :=
  match i with
  | .ahSel sel _ => decide (8 ≤ sel.toNat)
  | .nop | .crcGenT | .crcGenH | .crcChkT | .crcChkH | .convT | .convH | .calT | .calH | .frame => true
  | .getTC _ | .getTF _ | .getTK _ => true
  | .ahMmhg _ | .ahTorr _ | .ahPa _ | .ahBar _ | .ahAt _ | .ahAtm _ | .ahMh2o _ | .ahPsi _ => true
  | .tolTC _ | .tolTF _ | .tolTK _ | .tolH _ => true

/-- `i` is a command of the block. -/
abbrev Instr.WellFormed (i : Instr) : Prop := i.wf = true

end Sys2Proof
end

