-- ==== Sys2Proof/Decode.lean ====
section
/-! DEFINITION. Decode.lean: from a command word to a command or a named rejection (spec/30_encoding.md R97), and back
(R100); the match/mask table of R96 stands beside them. -/

namespace Sys2Proof

/-- Why a word is no command (R98). The machine treats all of them alike: IllegalCommand (60_exceptions.md R231).
Which name a word with several reasons gets is the model's choice and no rule shows it (log entry 17). -/
inductive DecodeError where
  /-- RSV (bits 31:13) is not 0 (R94). -/
  | reservedBits
  /-- OPC is 0x0C to 0xFF (R91). -/
  | unassignedOpcode
  /-- SEL is outside the legal set of its OPC (R92). -/
  | illegalSelector
  /-- SRC is 1 on an opcode that has no operand source (R93). -/
  | illegalSource
  /-- Fewer than four bytes were given to the decoder; a command is always one whole word (R90). -/
  | truncated
deriving DecidableEq, Repr

/-- OPC, bits 7:0 (R90). -/
def opcField (w : Word) : BitVec 8 := w.extractLsb' 0 8

/-- SEL, bits 11:8 (R90). -/
def selField (w : Word) : BitVec 4 := w.extractLsb' 8 4

/-- SRC, bit 12 (R90). -/
def srcField (w : Word) : BitVec 1 := w.extractLsb' 12 1

/-- RSV, bits 31:13 (R90). -/
def rsvField (w : Word) : BitVec 19 := w.extractLsb' 13 19

/-- The operand source a SRC bit names (R93). -/
def srcOfBit (b : BitVec 1) : Src := if b = 1#1 then .operand else .cached

/-- An opcode with no selector and no source: SEL = 0 and SRC = 0 (R97). -/
def decodePlain (i : Instr) (sel : BitVec 4) (src : BitVec 1) : Except DecodeError Instr :=
  if sel ≠ 0#4 then .error .illegalSelector
  else if src ≠ 0#1 then .error .illegalSource
  else .ok i

/-- CRC_GEN and CRC_CHK: SEL 0 is MBUF_T, SEL 1 is MBUF_H, SRC = 0 (R92, R97). -/
def decodeBuffer (onT onH : Instr) (sel : BitVec 4) (src : BitVec 1) : Except DecodeError Instr :=
  match sel.toNat with
  | 0 => if src ≠ 0#1 then .error .illegalSource else .ok onT
  | 1 => if src ≠ 0#1 then .error .illegalSource else .ok onH
  | _ => .error .illegalSelector

/-- GET_T and TOL_T: SEL 0, 1, 2 is the scale, SRC free (R92, R97). -/
def decodeScale (inC inF inK : Src → Instr) (sel : BitVec 4) (src : BitVec 1) : Except DecodeError Instr :=
  match sel.toNat with
  | 0 => .ok (inC (srcOfBit src))
  | 1 => .ok (inF (srcOfBit src))
  | 2 => .ok (inK (srcOfBit src))
  | _ => .error .illegalSelector

/-- AH: SEL 0 to 7 is the pressure unit, SEL 8 to 15 an unrecognised selector; every SEL is legal (R92). -/
def decodeAh (sel : BitVec 4) (src : Src) : Instr :=
  match sel.toNat with
  | 0 => .ahMmhg src
  | 1 => .ahTorr src
  | 2 => .ahPa src
  | 3 => .ahBar src
  | 4 => .ahAt src
  | 5 => .ahAtm src
  | 6 => .ahMh2o src
  | 7 => .ahPsi src
  | _ => .ahSel sel src

/-- The opcode map of R96, with the legality conditions of R97. -/
def decodeOpcode (opc : BitVec 8) (sel : BitVec 4) (src : BitVec 1) : Except DecodeError Instr :=
  match opc.toNat with
  | 0x00 => decodePlain .nop sel src
  | 0x01 => decodeBuffer .crcGenT .crcGenH sel src
  | 0x02 => decodeBuffer .crcChkT .crcChkH sel src
  | 0x03 => decodePlain .convT sel src
  | 0x04 => decodePlain .convH sel src
  | 0x05 => decodePlain .calT sel src
  | 0x06 => decodePlain .calH sel src
  | 0x07 => decodePlain .frame sel src
  | 0x08 => decodeScale .getTC .getTF .getTK sel src
  | 0x09 => .ok (decodeAh sel (srcOfBit src))
  | 0x0A => decodeScale .tolTC .tolTF .tolTK sel src
  | 0x0B => if sel ≠ 0#4 then .error .illegalSelector else .ok (.tolH (srcOfBit src))
  | _ => .error .unassignedOpcode

/-- Decode a command word (R97). -/
def decode (w : Word) : Except DecodeError Instr :=
  if rsvField w ≠ 0#19 then .error .reservedBits
  else decodeOpcode (opcField w) (selField w) (srcField w)

/-- The four byte lanes of a bus word, lane 0 first: lane k carries bits 8k+7:8k (20_memory.md R66). -/
def laneBytes (w : Word) : List Byte :=
  [w.extractLsb' 0 8, w.extractLsb' 8 8, w.extractLsb' 16 8, w.extractLsb' 24 8]

/-- Decode the first command of any bytes, given lane 0 first, and give back the bytes after it. -/
def decodeBytes (bytes : List Byte) : Except DecodeError (Instr × List Byte) :=
  match bytes with
  | b0 :: b1 :: b2 :: b3 :: rest =>
    match decode (b3 ++ b2 ++ b1 ++ b0) with
    | .ok i => .ok (i, rest)
    | .error e => .error e
  | _ => .error .truncated

/-- What the decoder reads from the `nbits` low bits of `w`, the bits above them 0: the word is laid out in byte lanes
and given to `decodeBytes`. `none` where the decoder rejects. -/
def decodeTableWord (nbits w : Nat) : Option Instr :=
  match decodeBytes (laneBytes (BitVec.ofNat 32 (w % 2 ^ nbits))) with
  | .ok (i, _) => some i
  | .error _ => none

/-! ### Encoder (R100: `OPC | SEL << 8 | SRC << 12`) -/

/-- The SRC bit of an operand source (R93). -/
def Src.bit (src : Src) : BitVec 1 :=
  match src with
  | .cached => 0#1
  | .operand => 1#1

/-- The command word of its fields, RSV = 0 (R90). -/
def assemble (opc : BitVec 8) (sel : BitVec 4) (src : BitVec 1) : Word := 0#19 ++ src ++ sel ++ opc

/-- The command word of a command (R100), written from the match column of R96. -/
def encode (i : Instr) : Word :=
  match i with
  | .nop => assemble 0x00#8 0#4 0#1
  | .crcGenT => assemble 0x01#8 0#4 0#1
  | .crcGenH => assemble 0x01#8 1#4 0#1
  | .crcChkT => assemble 0x02#8 0#4 0#1
  | .crcChkH => assemble 0x02#8 1#4 0#1
  | .convT => assemble 0x03#8 0#4 0#1
  | .convH => assemble 0x04#8 0#4 0#1
  | .calT => assemble 0x05#8 0#4 0#1
  | .calH => assemble 0x06#8 0#4 0#1
  | .frame => assemble 0x07#8 0#4 0#1
  | .getTC src => assemble 0x08#8 0#4 src.bit
  | .getTF src => assemble 0x08#8 1#4 src.bit
  | .getTK src => assemble 0x08#8 2#4 src.bit
  | .ahMmhg src => assemble 0x09#8 0#4 src.bit
  | .ahTorr src => assemble 0x09#8 1#4 src.bit
  | .ahPa src => assemble 0x09#8 2#4 src.bit
  | .ahBar src => assemble 0x09#8 3#4 src.bit
  | .ahAt src => assemble 0x09#8 4#4 src.bit
  | .ahAtm src => assemble 0x09#8 5#4 src.bit
  | .ahMh2o src => assemble 0x09#8 6#4 src.bit
  | .ahPsi src => assemble 0x09#8 7#4 src.bit
  | .ahSel sel src => assemble 0x09#8 sel src.bit
  | .tolTC src => assemble 0x0A#8 0#4 src.bit
  | .tolTF src => assemble 0x0A#8 1#4 src.bit
  | .tolTK src => assemble 0x0A#8 2#4 src.bit
  | .tolH src => assemble 0x0B#8 0#4 src.bit

/-! ### The match/mask table (R96) -/

/-- One row of the table of R96: a word `w` is of the row when `w AND mask = pattern`. -/
structure CommandRow where
  /-- the row's name -/
  name : String
  /-- the column "match" -/
  pattern : Word
  /-- the column "mask" -/
  mask : Word
deriving DecidableEq, Repr

/-- `w` matches the row (R96). -/
def CommandRow.accepts (r : CommandRow) (w : Word) : Bool := decide (w &&& r.mask = r.pattern)

/-- The complete list of legal words of R96. -/
def commandRows : List CommandRow :=
  [⟨"NOP", 0x00000000, 0xFFFFFFFF⟩, ⟨"CRC_GEN.T", 0x00000001, 0xFFFFFFFF⟩, ⟨"CRC_GEN.H", 0x00000101, 0xFFFFFFFF⟩,
   ⟨"CRC_CHK.T", 0x00000002, 0xFFFFFFFF⟩, ⟨"CRC_CHK.H", 0x00000102, 0xFFFFFFFF⟩, ⟨"CONV_T", 0x00000003, 0xFFFFFFFF⟩,
   ⟨"CONV_H", 0x00000004, 0xFFFFFFFF⟩, ⟨"CAL_T", 0x00000005, 0xFFFFFFFF⟩, ⟨"CAL_H", 0x00000006, 0xFFFFFFFF⟩,
   ⟨"FRAME", 0x00000007, 0xFFFFFFFF⟩, ⟨"GET_T.C", 0x00000008, 0xFFFFEFFF⟩, ⟨"GET_T.F", 0x00000108, 0xFFFFEFFF⟩,
   ⟨"GET_T.K", 0x00000208, 0xFFFFEFFF⟩, ⟨"AH.MMHG", 0x00000009, 0xFFFFEFFF⟩, ⟨"AH.TORR", 0x00000109, 0xFFFFEFFF⟩,
   ⟨"AH.PA", 0x00000209, 0xFFFFEFFF⟩, ⟨"AH.BAR", 0x00000309, 0xFFFFEFFF⟩, ⟨"AH.AT", 0x00000409, 0xFFFFEFFF⟩,
   ⟨"AH.ATM", 0x00000509, 0xFFFFEFFF⟩, ⟨"AH.MH2O", 0x00000609, 0xFFFFEFFF⟩, ⟨"AH.PSI", 0x00000709, 0xFFFFEFFF⟩,
   ⟨"AH.SELn", 0x00000809, 0xFFFFE8FF⟩, ⟨"TOL_T.C", 0x0000000A, 0xFFFFEFFF⟩, ⟨"TOL_T.F", 0x0000010A, 0xFFFFEFFF⟩,
   ⟨"TOL_T.K", 0x0000020A, 0xFFFFEFFF⟩, ⟨"TOL_H", 0x0000000B, 0xFFFFEFFF⟩]

/-! ### Assembler text (R100) -/

/-- The mnemonic with its suffix, as R96 and R100 write it; `.SEL8` to `.SEL15` for AH's unrecognised selectors. -/
def Instr.mnemonic (i : Instr) : String :=
  match i with
  | .nop => "NOP"
  | .crcGenT => "CRC_GEN.T"
  | .crcGenH => "CRC_GEN.H"
  | .crcChkT => "CRC_CHK.T"
  | .crcChkH => "CRC_CHK.H"
  | .convT => "CONV_T"
  | .convH => "CONV_H"
  | .calT => "CAL_T"
  | .calH => "CAL_H"
  | .frame => "FRAME"
  | .getTC _ => "GET_T.C"
  | .getTF _ => "GET_T.F"
  | .getTK _ => "GET_T.K"
  | .ahMmhg _ => "AH.MMHG"
  | .ahTorr _ => "AH.TORR"
  | .ahPa _ => "AH.PA"
  | .ahBar _ => "AH.BAR"
  | .ahAt _ => "AH.AT"
  | .ahAtm _ => "AH.ATM"
  | .ahMh2o _ => "AH.MH2O"
  | .ahPsi _ => "AH.PSI"
  | .ahSel sel _ => "AH.SEL" ++ Nat.repr sel.toNat
  | .tolTC _ => "TOL_T.C"
  | .tolTF _ => "TOL_T.F"
  | .tolTK _ => "TOL_T.K"
  | .tolH _ => "TOL_H"

/-- The name of a command's row in the table of R96: its mnemonic, but AH.SELn for all of AH.SEL8 to AH.SEL15. -/
def Instr.rowName (i : Instr) : String :=
  match i with
  | .ahSel _ _ => "AH.SELn"
  | _ => i.mnemonic

/-- The SRC field of a command; commands without one have SRC = 0 (R93). -/
def Instr.src (i : Instr) : Src :=
  match i with
  | .nop | .crcGenT | .crcGenH | .crcChkT | .crcChkH | .convT | .convH | .calT | .calH | .frame => .cached
  | .getTC s | .getTF s | .getTK s => s
  | .ahMmhg s | .ahTorr s | .ahPa s | .ahBar s | .ahAt s | .ahAtm s | .ahMh2o s | .ahPsi s => s
  | .ahSel _ s => s
  | .tolTC s | .tolTF s | .tolTK s | .tolH s => s

/-- The assembler text of a command: `MNEMONIC[.SUFFIX] [OP]` (R100). -/
def Instr.text (i : Instr) : String :=
  match i.src with
  | .cached => i.mnemonic
  | .operand => i.mnemonic ++ " OP"

end Sys2Proof
end

