-- ==== Sys2Proof/Config.lean ====
section
/-! DEFINITION. Config.lean: the implementation parameters of spec/00_scope.md R6. A parameter the spec leaves OPEN
has no body here, so that a claim about it holds for every value. -/

namespace Sys2Proof

/-- AH_POLY[0..5], the six coefficients of the absolute-humidity polynomial: OPEN (R6; 45_abs_humidity.md R190). Log entry 4. -/
opaque Config.ahPoly : Fin 6 → Fx

/-- BASE, the host address at which the platform places the register window: OPEN (R6; 20_memory.md R60). Log entry 5. -/
opaque Config.base : Nat

/-- CMD_LATENCY, the bus wait cycles of a command, possibly different per command word: OPEN, and "no rule reads it"
(R6; 70_reset_and_hazards.md R272). Nothing in the model reads it either. Log entry 6. -/
opaque Config.cmdLatency : Word → Nat

/-- The value of the ID register (R6; 10_state.md R21). -/
def Config.idValue : Word := 0x53480007

/-- The size of the register window in bytes (R6; 20_memory.md R60). -/
def Config.windowSize : Nat := 0x1000

end Sys2Proof
end

