-- ==== Sys2Proof/Machine/State.lean ====
section
/-! DEFINITION. Machine/State.lean: the registers of spec/10_state.md as plain data, the host's inputs and the reset
input beside them, and the state after reset (10_state.md R41). -/

namespace Sys2Proof.Machine

/-- Why the machine could stop with a fault: never. Every abnormal outcome of the spec (60_exceptions.md R230) is recorded
in STATUS or answered on the bus and the block goes on ("The block takes no trap", R237), so the type has no
constructor. Safe: no claim about a stop can be lost, because there is none. Log entry 9. -/
inductive Fault where
deriving DecidableEq, Repr

/-- Why the machine could refuse a command. -/
inductive Refusal where
  /-- An arm of `exec` whose meaning is not written yet, by its mnemonic. Nothing raises it: every arm has its meaning.
  Safe: a refusal proves nothing false. -/
  | notModelled (mnemonic : String)
deriving DecidableEq, Repr

/-- The sensor variants (00_scope.md R3; CFG.VARIANT of 10_state.md R26). Value 0b11 "is not a legal value and is never
stored", so it has no constructor. -/
inductive Variant where
  | variant30
  | variant31
  | variant35
deriving DecidableEq, Repr

/-- The fields of STATUS (10_state.md R23). Bits 7:5 and 31:10 are reserved and hold nothing. Log entry 7. -/
structure Status where
  /-- bit 0, CRC_OK -/
  crcOk : Bool
  /-- bit 1, T_OK -/
  tOk : Bool
  /-- bit 2, H_OK -/
  hOk : Bool
  /-- bit 3, UPD -/
  upd : Bool
  /-- bit 4, VALID -/
  valid : Bool
  /-- bit 8, OVF, sticky -/
  ovf : Bool
  /-- bit 9, ERR, sticky -/
  err : Bool
deriving DecidableEq, Repr

/-- The fields of CFG (10_state.md R26). Bits 7:2 and 31:9 are reserved and hold nothing. Log entry 7. -/
structure CfgReg where
  /-- bits 1:0, VARIANT -/
  variant : Variant
  /-- bit 8, LOCK -/
  lock : Bool
deriving DecidableEq, Repr

/-- What MBUF_T or MBUF_H holds (10_state.md R28, R29): one group as received, `msb` first. Bits 31:24 hold nothing. -/
structure SensorGroup where
  /-- bits 23:16 -/
  msb : Byte
  /-- bits 15:8 -/
  lsb : Byte
  /-- bits 7:0, the received checksum byte -/
  crc : Byte
deriving DecidableEq, Repr

/-- The bus response of a transaction (00_scope.md R12). -/
inductive Resp where
  | okay
  | error
deriving DecidableEq, Repr

/-- What a transaction is answered with: `MemRead` returns data and a response, `MemWrite` a response (00_scope.md R12). -/
inductive BusAnswer where
  | read (data : Word) (resp : Resp)
  | write (resp : Resp)
deriving DecidableEq, Repr

/-- Where a transaction goes: an offset in the window, or a host address that BASE maps (20_memory.md R60). -/
inductive Place where
  | offset (off : Offset)
  | address (a : Nat)
deriving DecidableEq, Repr

/-- What a transaction does: read or write `size` bytes (00_scope.md R12). Only a 4-byte access carries data that is
used (20_memory.md R62), so a word of data is carried. Log entry 11. -/
inductive Access where
  | read (size : Nat)
  | write (size : Nat) (data : Word)
deriving DecidableEq, Repr

/-- One bus transaction of the host (00_scope.md R7). -/
structure Transaction where
  place : Place
  access : Access
deriving DecidableEq, Repr

/-- One thing the outside world does to the block (00_scope.md R8; 70_reset_and_hazards.md R260). -/
inductive HostEvent where
  /-- the host issues a transaction -/
  | transaction (t : Transaction)
  /-- the reset input is asserted, possibly while a transaction is in progress -/
  | assertReset (inProgress : Option Transaction)
  /-- the reset input is released -/
  | releaseReset
deriving DecidableEq, Repr

/-- The machine: the registers of 10_state.md R20, and three fields of the model's own (`host`, `answer`,
`resetAsserted`; log entries 1, 2, 3). The block has no other state (R40). -/
structure State where
  /-- ID (R21) -/
  id : Word
  /-- CMD (R22) -/
  cmd : Word
  /-- STATUS (R23) -/
  status : Status
  /-- CFG (R26) -/
  cfg : CfgReg
  /-- MBUF_T (R28) -/
  mbufT : SensorGroup
  /-- MBUF_H (R29) -/
  mbufH : SensorGroup
  /-- CRC_OUT bits 7:0; bits 31:8 read 0 (R30) -/
  crcOut : Byte
  /-- OPA (R31) -/
  opa : Fx
  /-- OPB (R31) -/
  opb : Fx
  /-- RES (R32) -/
  res : Fx
  /-- TEMP (R33) -/
  temp : Fx
  /-- RH (R33) -/
  rh : Fx
  /-- CALT_F (R34) -/
  caltF : Fx
  /-- CALT_S (R34) -/
  caltS : Fx
  /-- CALH_F (R34) -/
  calhF : Fx
  /-- CALH_S (R34) -/
  calhS : Fx
  /-- POLY0 (R36) -/
  poly0 : Fx
  /-- POLY1 (R36) -/
  poly1 : Fx
  /-- POLY2 (R36) -/
  poly2 : Fx
  /-- POLY3 (R36) -/
  poly3 : Fx
  /-- POLY4 (R36) -/
  poly4 : Fx
  /-- POLY5 (R36) -/
  poly5 : Fx
  /-- the model's own: what the outside world does next, in order -/
  host : List HostEvent
  /-- the model's own: how the last event was answered; `none` where the block gave no answer -/
  answer : Option BusAnswer
  /-- the model's own: the level of the reset input -/
  resetAsserted : Bool
deriving DecidableEq, Repr

/-- The machine right after reset: every register as 10_state.md R41 lists it, the POLY registers at the parameter
AH_POLY; no host event waiting, no answer given, the reset input released (log entries 1, 2, 3). -/
def State.reset : State where
  id := Config.idValue
  cmd := 0
  status := ⟨false, false, false, false, false, false, false⟩
  cfg := ⟨.variant30, false⟩
  mbufT := ⟨0, 0, 0⟩
  mbufH := ⟨0, 0, 0⟩
  crcOut := 0
  opa := 0
  opb := 0
  res := 0
  temp := 0
  rh := 0
  caltF := 0x0000000100000000
  caltS := 0
  calhF := 0x0000000100000000
  calhS := 0
  poly0 := Config.ahPoly 0
  poly1 := Config.ahPoly 1
  poly2 := Config.ahPoly 2
  poly3 := Config.ahPoly 3
  poly4 := Config.ahPoly 4
  poly5 := Config.ahPoly 5
  host := []
  answer := none
  resetAsserted := false

end Sys2Proof.Machine
end

