-- ==== Sys2Proof/Machine/Flags.lean ====
section
/-! DEFINITION. Machine/Flags.lean: every write of a STATUS field (spec/10_state.md R23 to R25) and the register's
view as a bus word. -/

namespace Sys2Proof.Machine

/-- One flag as a bit. -/
def flagBit (b : Bool) : BitVec 1 := BitVec.ofBool b

/-- STATUS as it reads on the bus (R23): reserved fields read 0. -/
def Status.toWord (st : Status) : Word :=
  0#22 ++ flagBit st.err ++ flagBit st.ovf ++ 0#3 ++ flagBit st.valid ++ flagBit st.upd ++ flagBit st.hOk
    ++ flagBit st.tOk ++ flagBit st.crcOk

/-- OVF is set when a `sat64` of the command overflowed, and is otherwise left as it was (40_numerics.md R131; R24). -/
def Status.noteOverflow (st : Status) (overflowed : Bool) : Status := { st with ovf := st.ovf || overflowed }

/-- ERR is set by an illegal command (60_exceptions.md R231). -/
def Status.noteIllegal (st : Status) : Status := { st with err := true }

/-- CRC_OK is overwritten by CRC_CHK only (41_checksum.md R152). -/
def Status.noteCrc (st : Status) (ok : Bool) : Status := { st with crcOk := ok }

/-- T_OK, H_OK and UPD are overwritten by FRAME only (44_frame.md R180). -/
def Status.noteChecks (st : Status) (tok hok : Bool) : Status := { st with tOk := tok, hOk := hok, upd := tok && hok }

/-- VALID is set when FRAME updates the cached state (44_frame.md R180). -/
def Status.noteValid (st : Status) : Status := { st with valid := true }

/-- A host write of `v` to STATUS (R25): bit 8 clears OVF, bit 9 clears ERR, nothing else acts. -/
def Status.hostWrite (st : Status) (v : Word) : Status :=
  { st with ovf := st.ovf && !v.getLsbD 8, err := st.err && !v.getLsbD 9 }

end Sys2Proof.Machine
end

