-- ==== Sys2Proof/Machine/Numerics.lean ====
section
/-! DEFINITION. Machine/Numerics.lean: the fixed-point arithmetic of spec/40_numerics.md, exact on integers and
narrowed once. -/

namespace Sys2Proof.Machine

/-- The integer an FX pattern stands for: `s64` of its 64 bits (00_scope.md R10, R11). -/
abbrev fxInt (a : Fx) : Int := a.toInt

/-- The FX pattern `u64(n)` of an integer (00_scope.md R10, R11). -/
def fxOfInt (n : Int) : Fx := BitVec.ofInt 64 n

/-- `rnd32`: nearest, ties toward +infinity (R121). Integer division by a positive number is the floor (00_scope.md R10). -/
def rnd32 (n : Int) : Int := (n + 2 ^ 31) / 2 ^ 32

/-- `q(c)` of the rational c = num / den, `floor(c * 2^32 + 1/2)` (R122). -/
def quantise (num : Int) (den : Nat) : Int := (num * 2 ^ 33 + den) / (2 * den)

/-- An FX value together with whether a `sat64` on the way to it reported overflow (R123, R131). -/
structure SatFx where
  value : Fx
  ovf : Bool
deriving DecidableEq, Repr

/-- The FX range of R120. -/
def fxMax : Int := 2 ^ 63 - 1

/-- The FX range of R120. -/
def fxMin : Int := -2 ^ 63

/-- Saturation to the FX range, with its overflow report (R123). -/
def sat64 (n : Int) : SatFx :=
  if n > fxMax then ⟨fxOfInt fxMax, true⟩
  else if n < fxMin then ⟨fxOfInt fxMin, true⟩
  else ⟨fxOfInt n, false⟩

/-- A value that no `sat64` produced. -/
def SatFx.exact (v : Fx) : SatFx := ⟨v, false⟩

/-- Go on from a result: the next operation uses its value, and an overflow of either is reported (R131). -/
def SatFx.andThen (x : SatFx) (f : Fx → SatFx) : SatFx := ⟨(f x.value).value, x.ovf || (f x.value).ovf⟩

/-- Multiply-accumulate (R124): the exact product rounded once, the exact sum saturated once. -/
def mac (a b c : Fx) : SatFx := sat64 (rnd32 (fxInt a * fxInt b) + fxInt c)

/-- The multiply alone, `mac(a, b, 0)` (R124). -/
def mul (a b : Fx) : SatFx := mac a b 0

/-- Saturating add (R125). -/
def addsat (a b : Fx) : SatFx := sat64 (fxInt a + fxInt b)

/-- Division by 1000, nearest, ties toward +infinity; it never overflows (R126). -/
def div1000 (a : Fx) : Fx := fxOfInt ((fxInt a + 500) / 1000)

/-! ### The constant ROM (R127) -/

/-- K_T = q(0.00267033), the temperature slope. -/
def constKT : Fx := 0x0000000000AF00B4

/-- C_45 = q(45.0), the temperature offset. -/
def const45 : Fx := 0x0000002D00000000

/-- K_H = q(0.0015259), the humidity slope. -/
def constKH : Fx := 0x000000000064005B

/-- K_F = q(1.8), the Fahrenheit slope. -/
def constKF : Fx := 0x00000001CCCCCCCD

/-- C_32 = q(32), the Fahrenheit offset. -/
def const32 : Fx := 0x0000002000000000

/-- C_K = q(273.15), the Kelvin offset. -/
def constCK : Fx := 0x0000011126666666

/-- U_PA = q(133.322). -/
def constPa : Fx := 0x00000085526E978D

/-- U_BAR = q(0.0013332). -/
def constBar : Fx := 0x0000000000575F62

/-- U_AT = q(0.0013595). -/
def constAt : Fx := 0x00000000005918A0

/-- U_ATM = q(0.0013158). -/
def constAtm : Fx := 0x0000000000563B76

/-- U_MH2O = q(0.013595). -/
def constMh2o : Fx := 0x00000000037AF640

/-- U_PSI = q(0.019337). -/
def constPsi : Fx := 0x0000000004F34507

/-- ONE = q(1.0), the default calibration factor. -/
def constOne : Fx := 0x0000000100000000

end Sys2Proof.Machine
end

