-- ==== Sys2Proof/Machine/Operands.lean ====
section
/-! DEFINITION. Machine/Operands.lean: the inputs a command reads from registers (spec/30_encoding.md R95). -/

namespace Sys2Proof.Machine

/-- The raw word of a group, `msb` the more significant byte (R95; 20_memory.md R67). -/
def SensorGroup.raw (g : SensorGroup) : Raw := g.msb ++ g.lsb

/-- `T_in`: TEMP when SRC = 0, OPA when SRC = 1 (R95). -/
def tIn (src : Src) (s : State) : Fx :=
  match src with
  | .cached => s.temp
  | .operand => s.opa

/-- `H_in`: RH when SRC = 0, OPB when SRC = 1 (R95). -/
def hIn (src : Src) (s : State) : Fx :=
  match src with
  | .cached => s.rh
  | .operand => s.opb

end Sys2Proof.Machine
end

