-- ==== Sys2Proof/Machine/Ops.lean ====
section
/-! DEFINITION. Machine/Ops.lean: the named operations over the registers: the register map and its reads and writes
(spec/20_memory.md R61 to R68), what a command may write, the recording of the events of spec/60_exceptions.md, and reset
(spec/70_reset_and_hazards.md R260). The block takes no trap and returns from none (R237, R238): recording an event in
STATUS or on the bus is all that stands in the place of taking an exception. -/

namespace Sys2Proof.Machine

/-! ### The register map -/

/-- The 64-bit registers, each an FX value seen as two words (10_state.md R20). -/
inductive FxReg where
  | opa | opb | res | temp | rh | caltF | caltS | calhF | calhS | poly0 | poly1 | poly2 | poly3 | poly4 | poly5
deriving DecidableEq, Repr

/-- What a word of the window is (20_memory.md R61). -/
inductive BusWord where
  | id | cmd | status | cfg | mbufT | mbufH | crcOut
  /-- bits 31:0 of a 64-bit register -/
  | lo (r : FxReg)
  /-- bits 63:32 of a 64-bit register -/
  | hi (r : FxReg)
  | reserved
deriving DecidableEq, Repr

/-- The register map (20_memory.md R61), by byte offset; every offset it does not list is reserved. -/
def busWord (off : Offset) : BusWord :=
  match off.toNat with
  | 0x000 => .id
  | 0x004 => .cmd
  | 0x008 => .status
  | 0x00C => .cfg
  | 0x010 => .mbufT
  | 0x014 => .mbufH
  | 0x018 => .crcOut
  | 0x020 => .lo .opa
  | 0x024 => .hi .opa
  | 0x028 => .lo .opb
  | 0x02C => .hi .opb
  | 0x030 => .lo .res
  | 0x034 => .hi .res
  | 0x038 => .lo .temp
  | 0x03C => .hi .temp
  | 0x040 => .lo .rh
  | 0x044 => .hi .rh
  | 0x048 => .lo .caltF
  | 0x04C => .hi .caltF
  | 0x050 => .lo .caltS
  | 0x054 => .hi .caltS
  | 0x058 => .lo .calhF
  | 0x05C => .hi .calhF
  | 0x060 => .lo .calhS
  | 0x064 => .hi .calhS
  | 0x080 => .lo .poly0
  | 0x084 => .hi .poly0
  | 0x088 => .lo .poly1
  | 0x08C => .hi .poly1
  | 0x090 => .lo .poly2
  | 0x094 => .hi .poly2
  | 0x098 => .lo .poly3
  | 0x09C => .hi .poly3
  | 0x0A0 => .lo .poly4
  | 0x0A4 => .hi .poly4
  | 0x0A8 => .lo .poly5
  | 0x0AC => .hi .poly5
  | _ => .reserved

/-- `offset(REG)` (20_memory.md R61; 30_encoding.md R101): the byte offset of a word of the window; a reserved word has no
offset of its own, and 0x01C stands for all of them. -/
def BusWord.offset (b : BusWord) : Offset :=
  match b with
  | .id => 0x000
  | .cmd => 0x004
  | .status => 0x008
  | .cfg => 0x00C
  | .mbufT => 0x010
  | .mbufH => 0x014
  | .crcOut => 0x018
  | .lo .opa => 0x020
  | .hi .opa => 0x024
  | .lo .opb => 0x028
  | .hi .opb => 0x02C
  | .lo .res => 0x030
  | .hi .res => 0x034
  | .lo .temp => 0x038
  | .hi .temp => 0x03C
  | .lo .rh => 0x040
  | .hi .rh => 0x044
  | .lo .caltF => 0x048
  | .hi .caltF => 0x04C
  | .lo .caltS => 0x050
  | .hi .caltS => 0x054
  | .lo .calhF => 0x058
  | .hi .calhF => 0x05C
  | .lo .calhS => 0x060
  | .hi .calhS => 0x064
  | .lo .poly0 => 0x080
  | .hi .poly0 => 0x084
  | .lo .poly1 => 0x088
  | .hi .poly1 => 0x08C
  | .lo .poly2 => 0x090
  | .hi .poly2 => 0x094
  | .lo .poly3 => 0x098
  | .hi .poly3 => 0x09C
  | .lo .poly4 => 0x0A0
  | .hi .poly4 => 0x0A4
  | .lo .poly5 => 0x0A8
  | .hi .poly5 => 0x0AC
  | .reserved => 0x01C

/-! ### Reading -/

/-- The value of a 64-bit register, read whole (10_state.md R20). -/
def State.getFx (s : State) (r : FxReg) : Fx :=
  match r with
  | .opa => s.opa
  | .opb => s.opb
  | .res => s.res
  | .temp => s.temp
  | .rh => s.rh
  | .caltF => s.caltF
  | .caltS => s.caltS
  | .calhF => s.calhF
  | .calhS => s.calhS
  | .poly0 => s.poly0
  | .poly1 => s.poly1
  | .poly2 => s.poly2
  | .poly3 => s.poly3
  | .poly4 => s.poly4
  | .poly5 => s.poly5

/-- The VARIANT field of a variant (10_state.md R26). -/
def Variant.bits (v : Variant) : BitVec 2 :=
  match v with
  | .variant30 => 0b00#2
  | .variant31 => 0b01#2
  | .variant35 => 0b10#2

/-- CFG as it reads on the bus (10_state.md R26): reserved fields read 0. -/
def CfgReg.toWord (c : CfgReg) : Word := 0#23 ++ flagBit c.lock ++ 0#6 ++ c.variant.bits

/-- MBUF_T or MBUF_H as it reads on the bus (10_state.md R28, R29). -/
def SensorGroup.toWord (g : SensorGroup) : Word := 0#8 ++ g.msb ++ g.lsb ++ g.crc

/-- The low half of a 64-bit register (20_memory.md R68). -/
def loHalf (v : Fx) : Word := v.extractLsb' 0 32

/-- The high half of a 64-bit register (20_memory.md R68). -/
def hiHalf (v : Fx) : Word := v.extractLsb' 32 32

/-- `RegRead` of one word of the window (20_memory.md R64, R65). Reading changes nothing (R69). -/
def State.readWord (s : State) (b : BusWord) : Word :=
  match b with
  | .id => s.id
  | .cmd => s.cmd
  | .status => s.status.toWord
  | .cfg => s.cfg.toWord
  | .mbufT => s.mbufT.toWord
  | .mbufH => s.mbufH.toWord
  | .crcOut => 0#24 ++ s.crcOut
  | .lo r => loHalf (s.getFx r)
  | .hi r => hiHalf (s.getFx r)
  | .reserved => 0

/-! ### Writing by the host -/

/-- The variant a value of VARIANT names; 0b11 names none (10_state.md R26). -/
def variantOfBits (b : BitVec 2) : Option Variant :=
  match b.toNat with
  | 0 => some .variant30
  | 1 => some .variant31
  | 2 => some .variant35
  | _ => none

/-- A host write of `v` to CFG (10_state.md R27). -/
def CfgReg.hostWrite (c : CfgReg) (v : Word) : CfgReg :=
  if c.lock then c
  else { variant := (variantOfBits (v.extractLsb' 0 2)).getD c.variant, lock := v.getLsbD 8 }

/-- A host write of `v` to MBUF_T or MBUF_H (10_state.md R28, R29): bits 31:24 are ignored. -/
def groupOfWord (v : Word) : SensorGroup := ⟨v.extractLsb' 16 8, v.extractLsb' 8 8, v.extractLsb' 0 8⟩

/-- Bits 31:0 replaced, bits 63:32 left (20_memory.md R68). -/
def withLo (v : Fx) (w : Word) : Fx := hiHalf v ++ w

/-- Bits 63:32 replaced, bits 31:0 left (20_memory.md R68). -/
def withHi (v : Fx) (w : Word) : Fx := w ++ loHalf v

/-- A host write to a 64-bit register: the operand and calibration registers take the value (10_state.md R31, R34), the
read-only ones (RES, TEMP, RH, POLY0 to POLY5) ignore it (R37). -/
def State.hostSetFx (s : State) (r : FxReg) (v : Fx) : State :=
  match r with
  | .opa => { s with opa := v }
  | .opb => { s with opb := v }
  | .caltF => { s with caltF := v }
  | .caltS => { s with caltS := v }
  | .calhF => { s with calhF := v }
  | .calhS => { s with calhS := v }
  | .res | .temp | .rh => s
  | .poly0 | .poly1 | .poly2 | .poly3 | .poly4 | .poly5 => s

/-- `RegWrite` of one word of the window (20_memory.md R64, R65; 10_state.md R22 to R37). For CMD this is the storing
alone; `runCommand` of Machine/Bus.lean decodes and executes. -/
def State.writeWord (s : State) (b : BusWord) (v : Word) : State :=
  match b with
  | .id => s
  | .cmd => { s with cmd := v }
  | .status => { s with status := s.status.hostWrite v }
  | .cfg => { s with cfg := s.cfg.hostWrite v }
  | .mbufT => { s with mbufT := groupOfWord v }
  | .mbufH => { s with mbufH := groupOfWord v }
  | .crcOut => s
  | .lo r => s.hostSetFx r (withLo (s.getFx r) v)
  | .hi r => s.hostSetFx r (withHi (s.getFx r) v)
  | .reserved => s

/-! ### What a command may write -/

/-- A command's result goes to RES, all 64 bits (10_state.md R32); then OVF is set if a `sat64` overflowed
(40_numerics.md R131). -/
def State.writeResult (s : State) (r : SatFx) : State :=
  { s with res := r.value, status := s.status.noteOverflow r.ovf }

/-- The CRC just computed goes to CRC_OUT (10_state.md R30). -/
def State.writeCrc (s : State) (c : Byte) : State := { s with crcOut := c }

/-- The outcome of a CRC_CHK goes to STATUS.CRC_OK (41_checksum.md R152). -/
def State.writeCrcOk (s : State) (ok : Bool) : State := { s with status := s.status.noteCrc ok }

/-- FRAME's record of its two checks (44_frame.md R180). -/
def State.recordChecks (s : State) (tok hok : Bool) : State := { s with status := s.status.noteChecks tok hok }

/-- FRAME's update of the cached state, both values at once (44_frame.md R180, R183), then OVF (40_numerics.md R131). -/
def State.cacheReading (s : State) (t h : SatFx) : State :=
  { s with temp := t.value, rh := h.value, status := s.status.noteValid.noteOverflow (t.ovf || h.ovf) }

/-! ### Events and answers (60_exceptions.md) -/

/-- IllegalCommand (R231): ERR is set and nothing else changes; CMD already holds the word. -/
def State.raiseIllegalCommand (s : State) : State := { s with status := s.status.noteIllegal }

/-- The host gets an answer. -/
def State.giveAnswer (s : State) (a : BusAnswer) : State := { s with answer := some a }

/-- The block gives no answer: it took no transaction (log entry 2). -/
def State.giveNoAnswer (s : State) : State := { s with answer := none }

/-- BusError (R233): the response is ERROR, a read gets data 0, and no register changes. -/
def State.raiseBusError (s : State) (a : Access) : State :=
  match a with
  | .read _ => s.giveAnswer (.read 0 .error)
  | .write _ _ => s.giveAnswer (.write .error)

/-! ### Reset (70_reset_and_hazards.md R260) -/

/-- The reset input is asserted: every register takes its reset value at once, whatever was in progress. What the outside
world does afterwards is not the block's and stays. -/
def State.assertReset (s : State) : State := { State.reset with host := s.host, resetAsserted := true }

/-- The reset input is released: the block waits for the host's first transaction (R261). -/
def State.releaseReset (s : State) : State := { s with resetAsserted := false, answer := none }

end Sys2Proof.Machine
end

