-- ==== Sys2Proof/Machine/Conversion.lean ====
section
/-! DEFINITION. Machine/Conversion.lean: CONV_T, CONV_H and GET_T (spec/42_conversion.md). -/

namespace Sys2Proof.Machine

/-- Raw temperature to degrees Celsius, exact (R160; 40_numerics.md R128). -/
def convT (r : Raw) : Fx := fxOfInt (r.toNat * fxInt constKT - fxInt const45)

/-- Raw humidity to %RH, exact (R161; 40_numerics.md R128). -/
def convH (r : Raw) : Fx := fxOfInt (r.toNat * fxInt constKH)

/-- Fahrenheit of a Celsius temperature, one rounding and one saturation (R164). -/
def toFahrenheit (t : Fx) : SatFx := mac t constKF const32

/-- Kelvin of a Celsius temperature (R164; 45_abs_humidity.md R191). -/
def toKelvin (t : Fx) : SatFx := addsat t constCK

/-- CONV_T (R162) -/
def execConvT (s : State) : Host.Outcome State Fault Refusal := .next (s.writeResult (.exact (convT s.mbufT.raw)))

/-- CONV_H (R163) -/
def execConvH (s : State) : Host.Outcome State Fault Refusal := .next (s.writeResult (.exact (convH s.mbufH.raw)))

/-- GET_T.C (R164): a bit copy. -/
def execGetTC (src : Src) (s : State) : Host.Outcome State Fault Refusal := .next (s.writeResult (.exact (tIn src s)))

/-- GET_T.F (R164) -/
def execGetTF (src : Src) (s : State) : Host.Outcome State Fault Refusal := .next (s.writeResult (toFahrenheit (tIn src s)))

/-- GET_T.K (R164) -/
def execGetTK (src : Src) (s : State) : Host.Outcome State Fault Refusal := .next (s.writeResult (toKelvin (tIn src s)))

end Sys2Proof.Machine
end

