-- ==== Sys2Proof/Machine/AbsHumidity.lean ====
section
/-! DEFINITION. Machine/AbsHumidity.lean: AH in its eight pressure units and its unrecognised selectors
(spec/45_abs_humidity.md). -/

namespace Sys2Proof.Machine

/-- Horner's rule from the accumulator `acc` over the remaining coefficients, highest first: one `mac` per step (R191). -/
def horner (xs : Fx) (coeffs : List Fx) (acc : SatFx) : SatFx :=
  match coeffs with
  | [] => acc
  | p :: ps => horner xs ps (acc.andThen fun a => mac a xs p)

/-- `T_scaled`, the Kelvin temperature divided by 1000 (R191), with the overflow of the Kelvin step. -/
def scaledKelvin (t : Fx) : SatFx := (toKelvin t).andThen fun k => .exact (div1000 k)

/-- `ah_mmHg` (R191): the polynomial at `T_scaled` by Horner's rule, times the relative humidity. -/
def ahMmHg (s : State) (t h : Fx) : SatFx :=
  (scaledKelvin t).andThen fun xs =>
    (horner xs [s.poly4, s.poly3, s.poly2, s.poly1, s.poly0] (.exact s.poly5)).andThen fun acc => mac acc h 0

/-- The estimate in mmHg on the inputs SRC selects (R193). -/
def ahEstimate (src : Src) (s : State) : SatFx := ahMmHg s (tIn src s) (hIn src s)

/-- The estimate times a unit's constant (R192). -/
def ahInUnit (unit : Fx) (src : Src) (s : State) : SatFx := (ahEstimate src s).andThen fun p => mac p unit 0

/-- AH.MMHG (R192, R193) -/
def execAhMmhg (src : Src) (s : State) : Host.Outcome State Fault Refusal := .next (s.writeResult (ahEstimate src s))

/-- AH.TORR (R192, R193): the identity, as mmHg. -/
def execAhTorr (src : Src) (s : State) : Host.Outcome State Fault Refusal := .next (s.writeResult (ahEstimate src s))

/-- AH.PA (R192, R193) -/
def execAhPa (src : Src) (s : State) : Host.Outcome State Fault Refusal := .next (s.writeResult (ahInUnit constPa src s))

/-- AH.BAR (R192, R193) -/
def execAhBar (src : Src) (s : State) : Host.Outcome State Fault Refusal := .next (s.writeResult (ahInUnit constBar src s))

/-- AH.AT (R192, R193) -/
def execAhAt (src : Src) (s : State) : Host.Outcome State Fault Refusal := .next (s.writeResult (ahInUnit constAt src s))

/-- AH.ATM (R192, R193) -/
def execAhAtm (src : Src) (s : State) : Host.Outcome State Fault Refusal := .next (s.writeResult (ahInUnit constAtm src s))

/-- AH.MH2O (R192, R193) -/
def execAhMh2o (src : Src) (s : State) : Host.Outcome State Fault Refusal := .next (s.writeResult (ahInUnit constMh2o src s))

/-- AH.PSI (R192, R193) -/
def execAhPsi (src : Src) (s : State) : Host.Outcome State Fault Refusal := .next (s.writeResult (ahInUnit constPsi src s))

/-- AH.SELn (R192, R193): an unrecognised selector leaves the mmHg value, whichever it is; the selector takes no part in
the arithmetic (30_encoding.md R95). -/
def execAhSel (_sel : BitVec 4) (src : Src) (s : State) : Host.Outcome State Fault Refusal :=
  .next (s.writeResult (ahEstimate src s))

end Sys2Proof.Machine
end

