-- ==== Sys2Proof/Machine/Calibration.lean ====
section
/-! DEFINITION. Machine/Calibration.lean: CAL_T and CAL_H (spec/43_calibration.md). -/

namespace Sys2Proof.Machine

/-- The calibration function `value * factor + shift` (R170). -/
def calibrate (v factor shift : Fx) : SatFx := mac v factor shift

/-- `calT`: the temperature channel's own factors (R170, R174). -/
def calibrateT (s : State) (v : Fx) : SatFx := calibrate v s.caltF s.caltS

/-- `calH`: the humidity channel's own factors (R170, R174). -/
def calibrateH (s : State) (v : Fx) : SatFx := calibrate v s.calhF s.calhS

/-- CAL_T (R171) -/
def execCalT (s : State) : Host.Outcome State Fault Refusal := .next (s.writeResult (calibrateT s s.opa))

/-- CAL_H (R172): it too reads OPA. -/
def execCalH (s : State) : Host.Outcome State Fault Refusal := .next (s.writeResult (calibrateH s s.opa))

end Sys2Proof.Machine
end

