-- ==== Sys2Proof/Machine/Checksum.lean ====
section
/-! DEFINITION. Machine/Checksum.lean: CRC_GEN and CRC_CHK (spec/41_checksum.md). -/

namespace Sys2Proof.Machine

/-- One shift of the CRC register: polynomial 0x31 is XORed in when the high bit was set (R150). -/
def crcShift (r : Byte) : Byte := if r.getLsbD 7 then (r <<< 1) ^^^ 0x31#8 else r <<< 1

/-- `n` shifts. -/
def crcShifts (n : Nat) (r : Byte) : Byte :=
  match n with
  | 0 => r
  | n + 1 => crcShifts n (crcShift r)

/-- Take one data byte into the CRC register (R150). -/
def crcByte (r b : Byte) : Byte := crcShifts 8 (r ^^^ b)

/-- The CRC of two bytes, initial register 0xFF (R150). -/
def crc8 (b0 b1 : Byte) : Byte := crcByte (crcByte 0xFF#8 b0) b1

/-- The CRC of a group's two data bytes, msb first (R154). -/
def SensorGroup.computedCrc (g : SensorGroup) : Byte := crc8 g.msb g.lsb

/-- Whether a group's received checksum byte is the computed one (R152; 44_frame.md R180). -/
def SensorGroup.good (g : SensorGroup) : Bool := decide (g.computedCrc = g.crc)

/-- CRC_GEN of one group (R151). -/
def crcGen (g : SensorGroup) (s : State) : State := s.writeCrc g.computedCrc

/-- CRC_CHK of one group (R152). -/
def crcChk (g : SensorGroup) (s : State) : State := (s.writeCrc g.computedCrc).writeCrcOk g.good

/-- CRC_GEN.T (R151) -/
def execCrcGenT (s : State) : Host.Outcome State Fault Refusal := .next (crcGen s.mbufT s)

/-- CRC_GEN.H (R151) -/
def execCrcGenH (s : State) : Host.Outcome State Fault Refusal := .next (crcGen s.mbufH s)

/-- CRC_CHK.T (R152) -/
def execCrcChkT (s : State) : Host.Outcome State Fault Refusal := .next (crcChk s.mbufT s)

/-- CRC_CHK.H (R152) -/
def execCrcChkH (s : State) : Host.Outcome State Fault Refusal := .next (crcChk s.mbufH s)

end Sys2Proof.Machine
end

