-- ==== Sys2Proof/Machine/Control.lean ====
section
/-! DEFINITION. Machine/Control.lean: NOP (spec/47_control.md). The block has no other control, load, store or system
command (R221 to R223). -/

namespace Sys2Proof.Machine

/-- NOP (R220): the word is stored in CMD by the write that issued it (30_encoding.md R97), and nothing else happens. -/
def execNop (s : State) : Host.Outcome State Fault Refusal := .next s

end Sys2Proof.Machine
end

