-- ==== Sys2Proof/Machine/Frame.lean ====
section
/-! DEFINITION. Machine/Frame.lean: FRAME (spec/44_frame.md). -/

namespace Sys2Proof.Machine

/-- The temperature FRAME would cache: calibration applied once, after conversion (R180, R184). -/
def frameTemperature (s : State) : SatFx := calibrateT s (convT s.mbufT.raw)

/-- The humidity FRAME would cache (R180, R184). -/
def frameHumidity (s : State) : SatFx := calibrateH s (convH s.mbufH.raw)

/-- FRAME's effect (R180): the checks are always recorded; the cached values are written only when both groups are good. -/
def frameEffect (s : State) : State :=
  let checked := s.recordChecks s.mbufT.good s.mbufH.good
  if s.mbufT.good && s.mbufH.good then checked.cacheReading (frameTemperature s) (frameHumidity s) else checked

/-- FRAME (R180) -/
def execFrame (s : State) : Host.Outcome State Fault Refusal := .next (frameEffect s)

end Sys2Proof.Machine
end

