-- ==== Sys2Proof/Machine/Tolerance.lean ====
section
/-! DEFINITION. Machine/Tolerance.lean: the tolerance look-up table and TOL_T, TOL_H (spec/46_tolerance.md). -/

namespace Sys2Proof.Machine

/-- One row of the table: the line `slope * input + intercept` (R200, R205). -/
structure Segment where
  slope : Fx
  intercept : Fx
deriving DecidableEq, Repr

/-- The FX integer of an integer breakpoint (R200: "exact integers times 2^32"). -/
def breakpoint (n : Int) : Int := n * 2 ^ 32

/-- `seg_T` (R200): the first row of the variant whose condition holds; rows are closed on the right (R201). -/
def segT (v : Variant) (t : Fx) : Segment :=
  match v with
  | .variant30 =>
    if fxInt t ≤ breakpoint 0 then ⟨0xFFFFFFFFFD70A3D7, 0x0000000033333333⟩
    else if fxInt t ≤ breakpoint 65 then ⟨0, 0x0000000033333333⟩
    else ⟨0x0000000001B71759, 0xFFFFFFFFC4467382⟩
  | .variant31 =>
    if fxInt t ≤ breakpoint 0 then ⟨0xFFFFFFFFFF5C28F6, 0x0000000033333333⟩
    else if fxInt t ≤ breakpoint 90 then ⟨0, 0x0000000033333333⟩
    else ⟨0x0000000002339C0F, 0xFFFFFFFF6DB8BAC7⟩
  | .variant35 =>
    if fxInt t ≤ breakpoint 0 then ⟨0, 0x0000000033333333⟩
    else if fxInt t ≤ breakpoint 20 then ⟨0xFFFFFFFFFEB851EC, 0x0000000033333333⟩
    else if fxInt t ≤ breakpoint 60 then ⟨0, 0x000000001999999A⟩
    else if fxInt t ≤ breakpoint 90 then ⟨0xFFFFFFFFFF27BB30, 0xFFFFFFFFE6666666⟩
    else ⟨0x0000000001758E22, 0xFFFFFFFFAF8A0903⟩

/-- `seg_H` (R205). -/
def segH (v : Variant) (h : Fx) : Segment :=
  match v with
  | .variant30 =>
    if fxInt h < breakpoint 10 then ⟨0xFFFFFFFFCCCCCCCD, 0x0000000400000000⟩
    else if fxInt h ≤ breakpoint 90 then ⟨0, 0x0000000200000000⟩
    else ⟨0x0000000033333333, 0xFFFFFFF000000000⟩
  | .variant31 => ⟨0, 0x0000000200000000⟩
  | .variant35 =>
    if fxInt h ≤ breakpoint 80 then ⟨0, 0x0000000180000000⟩
    else ⟨0x0000000006666666, 0xFFFFFFFF80000000⟩

/-- The tolerance a row gives for an input (R203, R206). -/
def Segment.apply (g : Segment) (x : Fx) : SatFx := mac x g.slope g.intercept

/-- The temperature tolerance in Celsius, of the variant that CFG holds when the command executes (R203, R209). -/
def tolT (v : Variant) (t : Fx) : SatFx := (segT v t).apply t

/-- The Fahrenheit output: the Celsius tolerance times 1.8, with no offset (R204). -/
def tolTFahrenheit (v : Variant) (t : Fx) : SatFx := (tolT v t).andThen fun tol => mac tol constKF 0

/-- The humidity tolerance (R206). -/
def tolH (v : Variant) (h : Fx) : SatFx := (segH v h).apply h

/-- TOL_T.C (R203) -/
def execTolTC (src : Src) (s : State) : Host.Outcome State Fault Refusal := .next (s.writeResult (tolT s.cfg.variant (tIn src s)))

/-- TOL_T.F (R203, R204) -/
def execTolTF (src : Src) (s : State) : Host.Outcome State Fault Refusal :=
  .next (s.writeResult (tolTFahrenheit s.cfg.variant (tIn src s)))

/-- TOL_T.K (R203, R204): the Celsius tolerance unchanged (log entry 15). -/
def execTolTK (src : Src) (s : State) : Host.Outcome State Fault Refusal := .next (s.writeResult (tolT s.cfg.variant (tIn src s)))

/-- TOL_H (R206) -/
def execTolH (src : Src) (s : State) : Host.Outcome State Fault Refusal := .next (s.writeResult (tolH s.cfg.variant (hIn src s)))

end Sys2Proof.Machine
end

