-- ==== Sys2Proof/Machine/Dispatch.lean ====
section
/-! DEFINITION. Machine/Dispatch.lean: one arm per command of spec/30_encoding.md R96, each calling its meaning. -/

namespace Sys2Proof.Machine

-- The word is already in CMD when a command executes (30_encoding.md R97).
def exec (i : Instr) (s : State) : Host.Outcome State Fault Refusal :=
  match i with
  | .nop => Sys2Proof.Machine.execNop s
  | .crcGenT => Sys2Proof.Machine.execCrcGenT s
  | .crcGenH => Sys2Proof.Machine.execCrcGenH s
  | .crcChkT => Sys2Proof.Machine.execCrcChkT s
  | .crcChkH => Sys2Proof.Machine.execCrcChkH s
  | .convT => Sys2Proof.Machine.execConvT s
  | .convH => Sys2Proof.Machine.execConvH s
  | .calT => Sys2Proof.Machine.execCalT s
  | .calH => Sys2Proof.Machine.execCalH s
  | .frame => Sys2Proof.Machine.execFrame s
  | .getTC src => Sys2Proof.Machine.execGetTC src s
  | .getTF src => Sys2Proof.Machine.execGetTF src s
  | .getTK src => Sys2Proof.Machine.execGetTK src s
  | .ahMmhg src => Sys2Proof.Machine.execAhMmhg src s
  | .ahTorr src => Sys2Proof.Machine.execAhTorr src s
  | .ahPa src => Sys2Proof.Machine.execAhPa src s
  | .ahBar src => Sys2Proof.Machine.execAhBar src s
  | .ahAt src => Sys2Proof.Machine.execAhAt src s
  | .ahAtm src => Sys2Proof.Machine.execAhAtm src s
  | .ahMh2o src => Sys2Proof.Machine.execAhMh2o src s
  | .ahPsi src => Sys2Proof.Machine.execAhPsi src s
  | .ahSel sel src => Sys2Proof.Machine.execAhSel sel src s
  | .tolTC src => Sys2Proof.Machine.execTolTC src s
  | .tolTF src => Sys2Proof.Machine.execTolTF src s
  | .tolTK src => Sys2Proof.Machine.execTolTK src s
  | .tolH src => Sys2Proof.Machine.execTolH src s

end Sys2Proof.Machine
end

