-- ==== Sys2Proof/Machine/Bus.lean ====
section
/-! DEFINITION. Machine/Bus.lean: serving one bus transaction (spec/20_memory.md R60 to R70) and one event of the outside
world. -/

namespace Sys2Proof.Machine

/-- A machine step's continuation: apply `f` to a next state and pass a stop on. -/
def onNext (o : Host.Outcome State Fault Refusal) (f : State → State) : Host.Outcome State Fault Refusal :=
  match o with
  | .next s => .next (f s)
  | .fault r => .fault r
  | .refused r => .refused r

/-- Decode and execute the word a write has just stored in CMD (30_encoding.md R97): a legal word runs its command, an
illegal one raises IllegalCommand. -/
def runCommand (w : Word) (s : State) : Host.Outcome State Fault Refusal :=
  match decode w with
  | .ok i => exec i s
  | .error _ => .next s.raiseIllegalCommand

/-- `RegWrite` (20_memory.md R65): the register's write rule, and for CMD the command after the storing (10_state.md R22). -/
def regWrite (off : Offset) (v : Word) (s : State) : Host.Outcome State Fault Refusal :=
  if busWord off = .cmd then runCommand v (s.writeWord .cmd v) else .next (s.writeWord (busWord off) v)

/-- The size of an access in bytes. -/
def Access.size (a : Access) : Nat :=
  match a with
  | .read n => n
  | .write n _ => n

/-- The two conditions every access must meet (20_memory.md R62, R63): 4 bytes, at a multiple of 4. -/
def accessAllowed (off : Offset) (a : Access) : Bool := decide (a.size = 4) && decide (off.toNat % 4 = 0)

/-- `BusAccess` (20_memory.md R65): one transaction at an offset of the window, answered to the host. -/
def busAccess (off : Offset) (a : Access) (s : State) : Host.Outcome State Fault Refusal :=
  if accessAllowed off a then
    match a with
    | .read _ => .next (s.giveAnswer (.read (s.readWord (busWord off)) .okay))
    | .write _ v => onNext (regWrite off v s) fun t => t.giveAnswer (.write .okay)
  else .next (s.raiseBusError a)

/-- The offset a place reaches (20_memory.md R60): a host address A reaches A - BASE when BASE <= A < BASE + 0x1000, and
otherwise nothing of the block. -/
def Place.toOffset (p : Place) : Option Offset :=
  match p with
  | .offset off => some off
  | .address a =>
    if Config.base ≤ a ∧ a < Config.base + Config.windowSize then some (BitVec.ofNat 12 (a - Config.base)) else none

/-- One transaction of the host: not accepted while the reset input is asserted (70_reset_and_hazards.md R260), not the
block's where its address is outside the window (20_memory.md R60), and otherwise served. -/
def serveTransaction (t : Transaction) (s : State) : Host.Outcome State Fault Refusal :=
  if s.resetAsserted then .next s.giveNoAnswer
  else
    match t.place.toOffset with
    | some off => busAccess off t.access s
    | none => .next s.giveNoAnswer

/-- One event of the outside world. A transaction in progress when reset is asserted "has no effect"
(70_reset_and_hazards.md R260). -/
def serveEvent (e : HostEvent) (s : State) : Host.Outcome State Fault Refusal :=
  match e with
  | .transaction t => serveTransaction t s
  | .assertReset _inProgress => .next s.assertReset
  | .releaseReset => .next s.releaseReset

/-- The transaction that issues the command word `w`: an aligned 32-bit write to CMD (30_encoding.md R90). -/
def commandWrite (w : Word) : HostEvent := .transaction ⟨.offset 0x004, .write 4 w⟩

end Sys2Proof.Machine
end

