-- ==== Sys2Proof/Machine/Step.lean ====
section
/-! DEFINITION. Machine/Step.lean: one step of the machine is one event of the outside world (spec/00_scope.md R7, R8). -/

namespace Sys2Proof.Machine

/-- Serve the host's next event. With no event the block does nothing, since it never acts on its own (00_scope.md R8;
log entry 18). -/
def step (s : State) : Host.Outcome State Fault Refusal :=
  match s.host with
  | [] => .next s
  | e :: rest => serveEvent e { s with host := rest }

/-- The host's next transaction becomes the write of the command word to CMD, with the reset input released, so that the
very next step runs it (log entry 1). Nothing else changes. -/
def State.withFetchWord (s : State) (nbits w : Nat) : State :=
  { s with host := commandWrite (BitVec.ofNat 32 (w % 2 ^ nbits)) :: s.host, resetAsserted := false }

end Sys2Proof.Machine
end

