-- ==== Sys2Proof/Machine/HostProgram.lean ====
section
/-! DEFINITION. Machine/HostProgram.lean: the lines of a host program and the pseudo-instructions, each expanded to the
transactions it stands for (spec/30_encoding.md R101, R102). The machine does not read this file; it says what a host
issues. -/

namespace Sys2Proof.Machine

/-- One line of a host program (R101, R102). -/
inductive HostLine where
  /-- `WR REG, imm32` -/
  | wr (reg : BusWord) (imm : Word)
  /-- `RD REG` -/
  | rd (reg : BusWord)
  /-- `<command>` -/
  | command (i : Instr)
  /-- `WR64 REG, imm64` -/
  | wr64 (reg : FxReg) (imm : Fx)
  /-- `RD64 REG` -/
  | rd64 (reg : FxReg)
  /-- `LOADFRAME b0,b1,b2,b3,b4,b5` -/
  | loadFrame (b0 b1 b2 b3 b4 b5 : Byte)
  /-- `UPDATE b0,b1,b2,b3,b4,b5` -/
  | update (b0 b1 b2 b3 b4 b5 : Byte)
  /-- `VALIDATE a,b,c` -/
  | validate (a b c : Byte)
  /-- `COMPUTE a,b` -/
  | compute (a b : Byte)
  /-- `SETCAL.T f,s` -/
  | setCalT (f s : Fx)
  /-- `SETCAL.H f,s` -/
  | setCalH (f s : Fx)
  /-- `SETVAR v` -/
  | setVar (v : Variant)
  /-- `SETVAR.LOCK v` -/
  | setVarLock (v : Variant)
  /-- `CLRFLAGS` -/
  | clrFlags
deriving DecidableEq, Repr

/-- The aligned 32-bit write of a word to a register (R101). -/
def wrEvent (reg : BusWord) (imm : Word) : HostEvent := .transaction ⟨.offset reg.offset, .write 4 imm⟩

/-- The aligned 32-bit read of a register (R101). -/
def rdEvent (reg : BusWord) : HostEvent := .transaction ⟨.offset reg.offset, .read 4⟩

/-- The command's word written to CMD (R101). -/
def commandEvent (i : Instr) : HostEvent := wrEvent .cmd (encode i)

/-- `WR64` (R101): the low half, then the high half. -/
def wr64Events (reg : FxReg) (imm : Fx) : List HostEvent := [wrEvent (.lo reg) (loHalf imm), wrEvent (.hi reg) (hiHalf imm)]

/-- The six bytes of a measurement into the two buffer registers (R102). -/
def loadFrameEvents (b0 b1 b2 b3 b4 b5 : Byte) : List HostEvent :=
  [wrEvent .mbufT (0x00#8 ++ b0 ++ b1 ++ b2), wrEvent .mbufH (0x00#8 ++ b3 ++ b4 ++ b5)]

/-- The transactions a line stands for, in order (R101, R102). -/
def HostLine.expand (l : HostLine) : List HostEvent :=
  match l with
  | .wr reg imm => [wrEvent reg imm]
  | .rd reg => [rdEvent reg]
  | .command i => [commandEvent i]
  | .wr64 reg imm => wr64Events reg imm
  | .rd64 reg => [rdEvent (.lo reg), rdEvent (.hi reg)]
  | .loadFrame b0 b1 b2 b3 b4 b5 => loadFrameEvents b0 b1 b2 b3 b4 b5
  | .update b0 b1 b2 b3 b4 b5 => loadFrameEvents b0 b1 b2 b3 b4 b5 ++ [commandEvent .frame]
  | .validate a b c => [wrEvent .mbufT (0x00#8 ++ a ++ b ++ c), commandEvent .crcChkT, rdEvent .status]
  | .compute a b => [wrEvent .mbufT (0x00#8 ++ a ++ b ++ 0x00#8), commandEvent .crcGenT, rdEvent .crcOut]
  | .setCalT f s => wr64Events .caltF f ++ wr64Events .caltS s
  | .setCalH f s => wr64Events .calhF f ++ wr64Events .calhS s
  | .setVar v => [wrEvent .cfg (0#30 ++ v.bits)]
  | .setVarLock v => [wrEvent .cfg (0x100#32 ||| (0#30 ++ v.bits))]
  | .clrFlags => [wrEvent .status 0x00000300]

end Sys2Proof.Machine
end

