-- ==== Sys2Proof/Safety.lean ====
section
/-! DEFINITION. Safety.lean: the terms in which claims speak of a good state and of a run: the invariant of every
reachable state, and what an event does to the block. -/

namespace Sys2Proof.Machine

/-- The constant registers hold their constants: ID (spec/10_state.md R21) and POLY0 to POLY5 (R36). -/
def State.constantsHold (s : State) : Prop :=
  s.id = Config.idValue ∧ s.poly0 = Config.ahPoly 0 ∧ s.poly1 = Config.ahPoly 1 ∧ s.poly2 = Config.ahPoly 2 ∧
    s.poly3 = Config.ahPoly 3 ∧ s.poly4 = Config.ahPoly 4 ∧ s.poly5 = Config.ahPoly 5

/-- The status signal of FRAME is consistent (R23): UPD is T_OK and H_OK, an update leaves VALID set, and TEMP and RH hold
their reset value while VALID is 0 (R33). -/
def State.signalConsistent (s : State) : Prop :=
  s.status.upd = (s.status.tOk && s.status.hOk) ∧ (s.status.upd = true → s.status.valid = true) ∧
    (s.status.valid = false → s.temp = 0 ∧ s.rh = 0)

/-- Every register holds its reset value (R41); the model's own three fields are left out of the comparison. -/
def State.registersAtReset (s : State) : Prop :=
  { s with host := [], answer := none, resetAsserted := false } = State.reset

/-- The invariant of every reachable state: the constants hold, the status signal is consistent, and every register is at
its reset value as long as the reset input is asserted (70_reset_and_hazards.md R260). -/
def State.Inv (s : State) : Prop :=
  s.constantsHold ∧ s.signalConsistent ∧ (s.resetAsserted = true → s.registersAtReset)

/-- The same registers, whatever the model's own three fields hold. -/
def State.sameRegisters (s t : State) : Prop :=
  { s with host := t.host, answer := t.answer, resetAsserted := t.resetAsserted } = t

/-- The event is an aligned 32-bit write of `v` to the register `b`, and the block accepts it in `s`. -/
def State.acceptsWrite (s : State) (e : HostEvent) (b : BusWord) (v : Word) : Prop :=
  s.resetAsserted = false ∧ ∃ p off, e = .transaction ⟨p, .write 4 v⟩ ∧ p.toOffset = some off ∧ off.toNat % 4 = 0 ∧ busWord off = b

/-- The event asserts the reset input. -/
def HostEvent.assertsReset (e : HostEvent) : Prop := ∃ t, e = .assertReset t

/-- An access of the host at a window offset. -/
def atOffset (off : Offset) (a : Access) : HostEvent := .transaction ⟨.offset off, a⟩

/-- The state `s` with the reset input released and `e` the outside world's next event, then `rest`. -/
def State.facing (s : State) (e : HostEvent) (rest : List HostEvent) : State :=
  { s with host := e :: rest, resetAsserted := false }

/-- The state `s` after that event was taken off, the reset input still released, and answered with `a`. -/
def State.answered (s : State) (rest : List HostEvent) (a : BusAnswer) : State :=
  { s with host := rest, answer := some a, resetAsserted := false }

/-- The illegal words as spec/30_encoding.md R98 lists them, over the word as a number (OPC = w mod 256,
SEL = w / 256 mod 16, SRC = w / 4096 mod 2, RSV = w / 8192): a RSV bit, an unassigned OPC, a SEL outside the legal set of
R92, or SRC on an opcode without one. -/
def IllegalWord (w : Word) : Prop :=
  let opc := w.toNat % 256
  let sel := w.toNat / 256 % 16
  let src := w.toNat / 4096 % 2
  w.toNat / 8192 ≠ 0 ∨ 0x0C ≤ opc ∨ ((opc = 0x01 ∨ opc = 0x02) ∧ 2 ≤ sel) ∨ ((opc = 0x08 ∨ opc = 0x0A) ∧ 3 ≤ sel) ∨
    ((opc = 0x00 ∨ (0x03 ≤ opc ∧ opc ≤ 0x07) ∨ opc = 0x0B) ∧ sel ≠ 0) ∨ (opc ≤ 0x07 ∧ src = 1)

/-- A group with bit `k` of its 24 bits flipped: bits 23:16 are msb, 15:8 lsb, 7:0 the checksum byte. -/
def SensorGroup.flipBit (g : SensorGroup) (k : Fin 24) : SensorGroup := groupOfWord (g.toWord ^^^ (1#32 <<< k.val))

/-- The commands that write RES (spec/10_state.md R32). -/
def writesRes (i : Instr) : Bool :=
  match i with
  | .nop | .crcGenT | .crcGenH | .crcChkT | .crcChkH | .frame => false
  | .convT | .convH | .calT | .calH => true
  | .getTC _ | .getTF _ | .getTK _ => true
  | .ahMmhg _ | .ahTorr _ | .ahPa _ | .ahBar _ | .ahAt _ | .ahAtm _ | .ahMh2o _ | .ahPsi _ | .ahSel _ _ => true
  | .tolTC _ | .tolTF _ | .tolTK _ | .tolH _ => true

/-- The commands that write CRC_OUT (spec/10_state.md R30). -/
def writesCrcOut (i : Instr) : Bool := decide (i = .crcGenT ∨ i = .crcGenH ∨ i = .crcChkT ∨ i = .crcChkH)

/-- The commands that write STATUS.CRC_OK (spec/10_state.md R23). -/
def writesCrcOk (i : Instr) : Bool := decide (i = .crcChkT ∨ i = .crcChkH)

/-- The commands that can saturate, and so can set OVF (spec/60_exceptions.md R232); of GET_T, Fahrenheit and Kelvin. -/
def canSaturate (i : Instr) : Bool :=
  match i with
  | .nop | .crcGenT | .crcGenH | .crcChkT | .crcChkH | .convT | .convH => false
  | .calT | .calH | .frame => true
  | .getTC _ => false
  | .getTF _ | .getTK _ => true
  | .ahMmhg _ | .ahTorr _ | .ahPa _ | .ahBar _ | .ahAt _ | .ahAtm _ | .ahMh2o _ | .ahPsi _ | .ahSel _ _ => true
  | .tolTC _ | .tolTF _ | .tolTK _ | .tolH _ => false

end Sys2Proof.Machine
end

