-- ==== Sys2Proof/Certificates/Slice0/Obligations.lean ====
section
/-! DEFINITION. The statements for the provers. Each docstring names the rules of spec/ that the statement formalises, or
the sections it is derived from. In a statement about an exec equation, the right-hand side is the whole next state, so it
is the instruction's frame as well: every field not written there is unchanged. -/

open Sys2Proof Sys2Proof.Machine

/-! ### Encoding (spec/30_encoding.md) -/

/-- Decoder and encoder agree in both directions: a word decodes to `i` exactly when `i` is a command of the block and the
word is its encoding. So no bit of a word is dropped and no other word is accepted. -/
def Obligations.DecodeAgreesWithEncode : Prop :=
  ∀ (w : Word) (i : Instr), decode w = .ok i ↔ (i.WellFormed ∧ encode i = w)

/-- The match/mask table of R96 and the decode function of R97 accept exactly the same words. -/
def Obligations.DecoderAcceptsExactlyTheTableRows : Prop :=
  ∀ w : Word, (∃ i, decode w = .ok i) ↔ ∃ r ∈ commandRows, r.accepts w = true

/-- No word matches two rows of the table of R96. -/
def Obligations.NoWordMatchesTwoRows : Prop :=
  ∀ (w : Word) (r r' : CommandRow), r ∈ commandRows → r' ∈ commandRows → r.accepts w = true → r'.accepts w = true → r = r'

/-- Each command's encoding matches the row of its own name and no other. -/
def Obligations.EncodedCommandMatchesItsOwnRow : Prop :=
  ∀ i : Instr, i.WellFormed → ∀ r ∈ commandRows, (r.accepts (encode i) = true ↔ r.name = i.rowName)

/-- Sanity: command words written out from R90, R96 and R100 decode to the commands they stand for. -/
def Obligations.SampleWordsDecode : Prop :=
  decode 0x00000007 = .ok .frame ∧ decode 0x00000108 = .ok (.getTF .cached) ∧ decode 0x00001208 = .ok (.getTK .operand) ∧
  decode 0x00000209 = .ok (.ahPa .cached) ∧ decode 0x00001F09 = .ok (.ahSel 15 .operand) ∧
  decode 0x0000100B = .ok (.tolH .operand) ∧ decode 0x00000102 = .ok .crcChkH ∧ decode 0x00000006 = .ok .calH

/-- R98 and R231: the illegal words are exactly those R98 lists, every other word is a row of R96, and writing an illegal
word to CMD stores the word, sets STATUS.ERR, changes no other register, and is answered OKAY. -/
def Obligations.IllegalWordsSetErrAndNothingElse : Prop :=
  (∀ (s : State) (w : Word) (rest : List HostEvent), IllegalWord w →
    step (s.facing (commandWrite w) rest) =
      .next ({ s with cmd := w, status := { s.status with err := true } }.answered rest (.write .okay))) ∧
  (∀ w : Word, ¬ IllegalWord w ↔ ∃ r ∈ commandRows, r.accepts w = true)

/-- A step runs the decoded command: when the next event is an aligned 32-bit write to CMD of a word that decodes to `i`, the
step stores the word in CMD, executes `i`, and answers OKAY. -/
def Obligations.StepRunsTheDecodedCommand : Prop :=
  ∀ (s : State) (w : Word) (i : Instr) (rest : List HostEvent), decode w = .ok i →
    step (s.facing (commandWrite w) rest) =
      onNext (exec i { s with cmd := w, host := rest, resetAsserted := false }) fun t => { t with answer := some (.write .okay) }

/-! ### Numerics (spec/40_numerics.md) -/

/-- R121: rnd32 is the floor of (n + 2^31) / 2^32, the arithmetic shift, the nearest multiple, with ties toward +infinity;
and the rule's four examples. -/
def Obligations.RoundingIsNearestTiesUp : Prop :=
  (∀ n : Int, 2 ^ 32 * rnd32 n ≤ n + 2 ^ 31 ∧ n + 2 ^ 31 < 2 ^ 32 * (rnd32 n + 1)) ∧
  (∀ n : Int, rnd32 n = (n + 2 ^ 31) >>> (32 : Nat)) ∧
  (∀ n k : Int, (n - 2 ^ 32 * rnd32 n).natAbs ≤ (n - 2 ^ 32 * k).natAbs) ∧
  (∀ k : Int, rnd32 (2 ^ 32 * k + 2 ^ 31) = k + 1) ∧
  rnd32 (2 ^ 31) = 1 ∧ rnd32 (-2 ^ 31) = 0 ∧ rnd32 (2 ^ 31 - 1) = 0 ∧ rnd32 (-2 ^ 31 - 1) = -1

/-- R123: sat64 gives the bound and reports overflow outside the FX range, the value itself inside; a result is the nearest
representable value, so nothing wraps; and an overflow reported to a command's write of its results sets OVF. -/
def Obligations.SaturationClampsToTheFxRange : Prop :=
  (∀ n : Int, n > 2 ^ 63 - 1 → sat64 n = ⟨0x7FFFFFFFFFFFFFFF, true⟩) ∧
  (∀ n : Int, n < -2 ^ 63 → sat64 n = ⟨0x8000000000000000, true⟩) ∧
  (∀ n : Int, -2 ^ 63 ≤ n → n ≤ 2 ^ 63 - 1 → (sat64 n).ovf = false ∧ (sat64 n).value.toInt = n) ∧
  (∀ (n : Int) (v : Fx), (n - (sat64 n).value.toInt).natAbs ≤ (n - v.toInt).natAbs) ∧
  (∀ (s : State) (r : SatFx), r.ovf = true → (s.writeResult r).status.ovf = true) ∧
  (∀ (s : State) (t h : SatFx), (t.ovf = true ∨ h.ovf = true) → (s.cacheReading t h).status.ovf = true)

/-- Section 2 (mac, mul) and R125 (addsat): the exact product rounded once, the exact sum clamped once, overflow reported
exactly when the sum is outside the range. -/
def Obligations.MacAndAddsatClampTheExactSum : Prop :=
  (∀ a b c : Fx,
    (mac a b c).value.toInt = max (-2 ^ 63) (min (2 ^ 63 - 1) ((a.toInt * b.toInt + 2 ^ 31) / 2 ^ 32 + c.toInt)) ∧
    ((mac a b c).ovf = true ↔
      ((a.toInt * b.toInt + 2 ^ 31) / 2 ^ 32 + c.toInt > 2 ^ 63 - 1 ∨ (a.toInt * b.toInt + 2 ^ 31) / 2 ^ 32 + c.toInt < -2 ^ 63))) ∧
  (∀ a b : Fx, mul a b = mac a b 0) ∧
  (∀ a b : Fx, addsat a b = sat64 (a.toInt + b.toInt) ∧
    (addsat a b).value.toInt = max (-2 ^ 63) (min (2 ^ 63 - 1) (a.toInt + b.toInt)))

/-- Section 2 (div1000): the result is the floor of (a + 500) / 1000 with no wrap-around, the FX value nearest a / 1000 with
ties upward. R126 prints the range [-2^63 / 1000, (2^63 - 1) / 1000], which the formula of R126 leaves at both ends by
less than half a unit; the bounds here are that range widened by half a unit, and the last two clauses give the ends (log
entry 21). -/
def Obligations.DivisionByThousandIsNearestAndNeverOverflows : Prop :=
  (∀ a : Fx, (div1000 a).toInt = (a.toInt + 500) / 1000 ∧ 2 * (a.toInt - 1000 * (div1000 a).toInt).natAbs ≤ 1000 ∧
    -2 ^ 63 ≤ 1000 * (div1000 a).toInt + 500 ∧ 1000 * (div1000 a).toInt ≤ 2 ^ 63 - 1 + 500) ∧
  (∀ (a : Fx) (k : Int), a.toInt = 1000 * k + 500 → (div1000 a).toInt = k + 1) ∧
  (div1000 0x8000000000000000).toInt = -9223372036854776 ∧ (div1000 0x7FFFFFFFFFFFFFFF).toInt = 9223372036854776

/-- R127: each constant of the ROM is the q of its literal, and has the listed decimal value. -/
def Obligations.ConstantRomIsTheQuantisedLiterals : Prop :=
  (constKT.toInt = 11468980 ∧ quantise 267033 100000000 = 11468980) ∧
  (const45.toInt = 193273528320 ∧ quantise 45 1 = 193273528320) ∧
  (constKH.toInt = 6553691 ∧ quantise 15259 10000000 = 6553691) ∧
  (constKF.toInt = 7730941133 ∧ quantise 18 10 = 7730941133) ∧
  (const32.toInt = 137438953472 ∧ quantise 32 1 = 137438953472) ∧
  (constCK.toInt = 1173170316902 ∧ quantise 27315 100 = 1173170316902) ∧
  (constPa.toInt = 572613629837 ∧ quantise 133322 1000 = 572613629837) ∧
  (constBar.toInt = 5726050 ∧ quantise 13332 10000000 = 5726050) ∧
  (constAt.toInt = 5839008 ∧ quantise 13595 10000000 = 5839008) ∧
  (constAtm.toInt = 5651318 ∧ quantise 13158 10000000 = 5651318) ∧
  (constMh2o.toInt = 58390080 ∧ quantise 13595 1000000 = 58390080) ∧
  (constPsi.toInt = 83051783 ∧ quantise 19337 1000000 = 83051783) ∧
  (constOne.toInt = 4294967296 ∧ quantise 1 1 = 4294967296)

/-- Section 4 of 40_numerics.md, which the spec marks as derived: the laws of rounding. Multiplying by ONE is the identity,
rnd32 is within half a unit and monotone, and negation commutes with it but at exact ties. -/
def Obligations.RoundingLaws : Prop :=
  (∀ a : Fx, mac a constOne 0 = ⟨a, false⟩) ∧
  (∀ n : Int, 2 * (n - 2 ^ 32 * rnd32 n).natAbs ≤ 2 ^ 32) ∧
  (∀ m n : Int, m ≤ n → rnd32 m ≤ rnd32 n) ∧
  (∀ n : Int, n % 2 ^ 32 ≠ 2 ^ 31 → rnd32 (-n) = -rnd32 n) ∧
  (∀ n : Int, n % 2 ^ 32 = 2 ^ 31 → rnd32 (-n) = -rnd32 n + 1)

/-! ### Checksum (spec/41_checksum.md) -/

/-- R150 over natural numbers: the CRC register starts at 0xFF; each byte is XORed in and followed by eight shifts, each with
the polynomial 0x31 XORed in when the high bit was set; and the reference vector. -/
def Obligations.CrcIsTheShiftRegister : Prop :=
  (∀ b0 b1 : Byte, (crc8 b0 b1).toNat =
    [b0.toNat, b1.toNat].foldl
      (fun r b => (List.range 8).foldl (fun q _ => if 128 ≤ q then ((q * 2) ^^^ 0x31) % 256 else (q * 2) % 256) (r ^^^ b)) 0xFF) ∧
  crc8 0xBE 0xEF = 0x92

/-- Derived from R150's register: the CRC is affine, so an error's effect on it does not depend on the data. -/
def Obligations.CrcIsAffine : Prop :=
  ∀ a b x y : Byte, crc8 (a ^^^ x) (b ^^^ y) = crc8 a b ^^^ crc8 x y ^^^ crc8 0 0

/-- R151: CRC_GEN of either group writes CRC_OUT and nothing else; its encodings, corner cases and example. -/
def Obligations.CrcGenWritesCrcOutOnly : Prop :=
  (∀ s : State, exec .crcGenT s = .next { s with crcOut := crc8 s.mbufT.msb s.mbufT.lsb }) ∧
  (∀ s : State, exec .crcGenH s = .next { s with crcOut := crc8 s.mbufH.msb s.mbufH.lsb }) ∧
  (∀ (s : State), s.readWord .crcOut = 0#24 ++ s.crcOut) ∧
  (∀ (s : State) (v : Word), (s.writeWord .mbufT v).mbufT = ⟨v.extractLsb' 16 8, v.extractLsb' 8 8, v.extractLsb' 0 8⟩) ∧
  (∀ (s : State) (v : Word), (s.writeWord .mbufH v).mbufH = ⟨v.extractLsb' 16 8, v.extractLsb' 8 8, v.extractLsb' 0 8⟩) ∧
  decode 0x00000001 = .ok .crcGenT ∧ decode 0x00000101 = .ok .crcGenH ∧
  crc8 0x00 0x00 = 0x81 ∧ crc8 0xFF 0xFF = 0xAC ∧ crc8 0xBE 0xEF = 0x92

/-- CRC_CHK of either group writes CRC_OUT and CRC_OK and nothing else; CRC_OK is 1 exactly when the computed CRC is the
received checksum byte (section 1). -/
def Obligations.CrcChkWritesCrcOutAndCrcOk : Prop :=
  (∀ s : State, exec .crcChkT s =
    .next { s with crcOut := crc8 s.mbufT.msb s.mbufT.lsb,
                   status := { s.status with crcOk := decide (crc8 s.mbufT.msb s.mbufT.lsb = s.mbufT.crc) } }) ∧
  (∀ s : State, exec .crcChkH s =
    .next { s with crcOut := crc8 s.mbufH.msb s.mbufH.lsb,
                   status := { s.status with crcOk := decide (crc8 s.mbufH.msb s.mbufH.lsb = s.mbufH.crc) } }) ∧
  decode 0x00000002 = .ok .crcChkT ∧ decode 0x00000102 = .ok .crcChkH

/-- Error detection (section 2; the two-bit clause is the spec's own derived sentence): a group with its computed checksum is
good, and flipping any one bit, or any two different bits, of a good group makes it bad. -/
def Obligations.ChecksumDetectsOneAndTwoBitErrors : Prop :=
  (∀ a b : Byte, (SensorGroup.mk a b (crc8 a b)).good = true) ∧
  (∀ (g : SensorGroup) (k : Fin 24), g.good = true → (g.flipBit k).good = false) ∧
  (∀ (g : SensorGroup) (k l : Fin 24), k ≠ l → g.good = true → ((g.flipBit k).flipBit l).good = false)

/-! ### Conversion (spec/42_conversion.md) -/

/-- R160 and R161: the two conversions are exact integer maps that never wrap, and stay between their stated end points. -/
def Obligations.ConvertersAreExact : Prop :=
  (∀ r : Raw, (convT r).toInt = r.toNat * 0x00AF00B4 - 45 * 2 ^ 32 ∧
    -45 * 2 ^ 32 ≤ (convT r).toInt ∧ (convT r).toInt ≤ 0x000000820004FF4C) ∧
  (∀ r : Raw, (convH r).toInt = r.toNat * 0x0064005B ∧ 0 ≤ (convH r).toInt ∧ (convH r).toInt ≤ 0x00000063FFF6FFA5) ∧
  convT 0 = 0xFFFFFFD300000000 ∧ convT 0xFFFF = 0x000000820004FF4C ∧ convH 0 = 0 ∧ convH 0xFFFF = 0x00000063FFF6FFA5

/-- R162 and R163: CONV_T and CONV_H write RES and nothing else, whatever the check byte; their encodings, corner cases and
examples. -/
def Obligations.ConvWritesResOnly : Prop :=
  (∀ s : State, exec .convT s = .next { s with res := convT (s.mbufT.msb ++ s.mbufT.lsb) }) ∧
  (∀ s : State, exec .convH s = .next { s with res := convH (s.mbufH.msb ++ s.mbufH.lsb) }) ∧
  decode 0x00000003 = .ok .convT ∧ decode 0x00000004 = .ok .convH ∧
  convT 0x0000 = 0xFFFFFFD300000000 ∧ convT 0xFFFF = 0x000000820004FF4C ∧ convT 0x642B = 0x0000001779AB6E3C ∧
  convH 0x0000 = 0 ∧ convH 0xFFFF = 0x00000063FFF6FFA5 ∧ convH 0x8000 = 0x00000032002D8000 ∧ convH 0x5E5D = 0x00000024DC758B0F

/-- GET_T in its three scales (section 2): Celsius copies bit for bit, Fahrenheit is one mac and Kelvin one addsat; RES is
written and OVF set on saturation, and nothing else changes. -/
def Obligations.GetTWritesTheScaledTemperature : Prop :=
  (∀ (s : State) (src : Src), exec (.getTC src) s = .next { s with res := tIn src s }) ∧
  (∀ (s : State) (src : Src), exec (.getTF src) s =
    .next { s with res := (mac (tIn src s) constKF const32).value,
                   status := { s.status with ovf := s.status.ovf || (mac (tIn src s) constKF const32).ovf } }) ∧
  (∀ (s : State) (src : Src), exec (.getTK src) s =
    .next { s with res := (addsat (tIn src s) constCK).value,
                   status := { s.status with ovf := s.status.ovf || (addsat (tIn src s) constCK).ovf } })

/-- SRC selects the inputs (30_encoding.md section 2): TEMP and RH, or OPA and OPB. -/
def Obligations.SourceSelectsTheOperands : Prop :=
  ∀ s : State, tIn .cached s = s.temp ∧ tIn .operand s = s.opa ∧ hIn .cached s = s.rh ∧ hIn .operand s = s.opb

/-! ### Calibration (spec/43_calibration.md) -/

/-- R171 and R172: CAL_T and CAL_H apply their channel's factors to OPA, write RES, set OVF on saturation and change nothing
else; the identity case holds bit for bit; the encodings, corner cases and examples. -/
def Obligations.CalAppliesTheChannelFactors : Prop :=
  (∀ s : State, exec .calT s =
    .next { s with res := (mac s.opa s.caltF s.caltS).value,
                   status := { s.status with ovf := s.status.ovf || (mac s.opa s.caltF s.caltS).ovf } }) ∧
  (∀ s : State, exec .calH s =
    .next { s with res := (mac s.opa s.calhF s.calhS).value,
                   status := { s.status with ovf := s.status.ovf || (mac s.opa s.calhF s.calhS).ovf } }) ∧
  (∀ s : State, s.caltF = 0x0000000100000000 → s.caltS = 0 → exec .calT s = .next { s with res := s.opa }) ∧
  (∀ s : State, s.calhF = 0x0000000100000000 → s.calhS = 0 → exec .calH s = .next { s with res := s.opa }) ∧
  decode 0x00000005 = .ok .calT ∧ decode 0x00000006 = .ok .calH ∧
  mac 0x4000000000000000 0x0000000400000000 0 = ⟨0x7FFFFFFFFFFFFFFF, true⟩ ∧
  mac 0xC000000000000000 0x0000000400000000 0 = ⟨0x8000000000000000, true⟩ ∧
  mac 1 0x0000000080000000 0 = ⟨1, false⟩ ∧ mac 0xFFFFFFFFFFFFFFFF 0x0000000080000000 0 = ⟨0, false⟩ ∧
  mac 0x0000001779AB6E3C 0x0000000200000000 0x0000000500000000 = ⟨0x00000033F356DC78, false⟩ ∧
  mac 0xFFFFFFD300000000 0x0000000200000000 0x0000000500000000 = ⟨0xFFFFFFAB00000000, false⟩

/-- Laws of the calibration function that the spec derives (section 1): identity at (1.0, 0.0), a saturating add at factor
1.0, the shift alone at factor 0.0. -/
def Obligations.CalibrationLaws : Prop :=
  (∀ x : Fx, calibrate x constOne 0 = ⟨x, false⟩) ∧
  (∀ x s : Fx, calibrate x constOne s = addsat x s) ∧
  (∀ x s : Fx, calibrate x 0 s = ⟨s, false⟩)

/-- R174: a channel's factors are read for that channel only. Changing the humidity factors changes nothing but themselves in
any command other than CAL_H and FRAME, and in FRAME not the temperature; and the other way round. -/
def Obligations.ChannelsAreIndependent : Prop :=
  (∀ (i : Instr) (s : State) (f g : Fx), i ≠ .calH → i ≠ .frame →
    ∃ t, exec i s = .next t ∧ exec i { s with calhF := f, calhS := g } = .next { t with calhF := f, calhS := g }) ∧
  (∀ (i : Instr) (s : State) (f g : Fx), i ≠ .calT → i ≠ .frame →
    ∃ t, exec i s = .next t ∧ exec i { s with caltF := f, caltS := g } = .next { t with caltF := f, caltS := g }) ∧
  (∀ (s : State) (f g : Fx), ∃ t t', exec .frame s = .next t ∧
    exec .frame { s with calhF := f, calhS := g } = .next t' ∧ t'.temp = t.temp) ∧
  (∀ (s : State) (f g : Fx), ∃ t t', exec .frame s = .next t ∧
    exec .frame { s with caltF := f, caltS := g } = .next t' ∧ t'.rh = t.rh)

/-! ### Frame (spec/44_frame.md) -/

/-- FRAME with both groups good (R180's accepted case): T_OK, H_OK, UPD and VALID are set, TEMP and RH take the calibrated
conversions of the two raw words, OVF is set when either calibration saturates, and nothing else changes. -/
def Obligations.FrameCachesTheCalibratedReading : Prop :=
  ∀ s : State, s.mbufT.good = true → s.mbufH.good = true →
    exec .frame s =
      .next { s with temp := (mac (convT (s.mbufT.msb ++ s.mbufT.lsb)) s.caltF s.caltS).value,
                     rh := (mac (convH (s.mbufH.msb ++ s.mbufH.lsb)) s.calhF s.calhS).value,
                     status := { s.status with
                       tOk := true, hOk := true, upd := true, valid := true,
                       ovf := s.status.ovf || ((mac (convT (s.mbufT.msb ++ s.mbufT.lsb)) s.caltF s.caltS).ovf ||
                         (mac (convH (s.mbufH.msb ++ s.mbufH.lsb)) s.calhF s.calhS).ovf) } }

/-- R182: when either validation fails, T_OK, H_OK and UPD report it and every other register, TEMP and RH among them, keeps
its value bit for bit. -/
def Obligations.FrameIsStaleOnFailure : Prop :=
  ∀ s : State, (s.mbufT.good = false ∨ s.mbufH.good = false) →
    exec .frame s = .next { s with status := { s.status with tOk := s.mbufT.good, hOk := s.mbufH.good, upd := false } }

/-- R181: the two checks are independent: T_OK is the check of MBUF_T alone, whatever MBUF_H holds, and H_OK of MBUF_H. -/
def Obligations.FrameChecksAreIndependent : Prop :=
  (∀ (s : State) (g : SensorGroup), ∃ t t', exec .frame s = .next t ∧ exec .frame { s with mbufH := g } = .next t' ∧
    t'.status.tOk = t.status.tOk ∧ t.status.tOk = decide (crc8 s.mbufT.msb s.mbufT.lsb = s.mbufT.crc)) ∧
  (∀ (s : State) (g : SensorGroup), ∃ t t', exec .frame s = .next t ∧ exec .frame { s with mbufT := g } = .next t' ∧
    t'.status.hOk = t.status.hOk ∧ t.status.hOk = decide (crc8 s.mbufH.msb s.mbufH.lsb = s.mbufH.crc))

/-- FRAME issued twice on one buffer gives the same result twice (R180's corner case; R276): the second FRAME changes
nothing at all, so calibration is never applied to a calibrated value. -/
def Obligations.FrameTwiceIsFrameOnce : Prop :=
  ∀ s : State, ∃ t, exec .frame s = .next t ∧ exec .frame t = .next t

/-- R185: in an accepted FRAME in which a calibration saturates (the rounded product plus the shift leaves the FX range), both
channels cache the values their calibration gives, a channel that saturates caches the bound on the side it left, VALID, UPD
and OVF are set, and the checks are as for any accepted frame. -/
def Obligations.SaturatedFrameIsCached : Prop :=
  ∀ s : State, s.mbufT.good = true → s.mbufH.good = true →
    let sumT := rnd32 ((convT (s.mbufT.msb ++ s.mbufT.lsb)).toInt * s.caltF.toInt) + s.caltS.toInt
    let sumH := rnd32 ((convH (s.mbufH.msb ++ s.mbufH.lsb)).toInt * s.calhF.toInt) + s.calhS.toInt
    (2 ^ 63 - 1 < sumT ∨ sumT < -2 ^ 63 ∨ 2 ^ 63 - 1 < sumH ∨ sumH < -2 ^ 63) →
    ∃ t, exec .frame s = .next t ∧ t.status.tOk = true ∧ t.status.hOk = true ∧ t.status.upd = true ∧
      t.status.valid = true ∧ t.status.ovf = true ∧
      t.temp = (frameTemperature s).value ∧ t.rh = (frameHumidity s).value ∧
      (2 ^ 63 - 1 < sumT → t.temp = 0x7FFFFFFFFFFFFFFF) ∧ (sumT < -2 ^ 63 → t.temp = 0x8000000000000000) ∧
      (2 ^ 63 - 1 < sumH → t.rh = 0x7FFFFFFFFFFFFFFF) ∧ (sumH < -2 ^ 63 → t.rh = 0x8000000000000000)

/-- R183, over every step of the machine: TEMP and RH change only together, in an accepted FRAME whose two groups are good,
to the calibrated conversions of that frame's raw words, or by reset. -/
def Obligations.CachedStateChangesOnlyInAnAcceptedFrame : Prop :=
  ∀ s t : State, step s = .next t → (t.temp ≠ s.temp ∨ t.rh ≠ s.rh) →
    ∃ e rest, s.host = e :: rest ∧
      (e.assertsReset ∨
        (s.acceptsWrite e .cmd 0x00000007 ∧ s.mbufT.good = true ∧ s.mbufH.good = true ∧
          t.temp = (mac (convT (s.mbufT.msb ++ s.mbufT.lsb)) s.caltF s.caltS).value ∧
          t.rh = (mac (convH (s.mbufH.msb ++ s.mbufH.lsb)) s.calhF s.calhS).value ∧
          t.status.upd = true ∧ t.status.valid = true))

/-! ### Absolute humidity (spec/45_abs_humidity.md) -/

/-- The estimate is Horner's rule with one rounding per multiply, and every saturation on the way is reported (section
"R191" of the file). -/
def Obligations.AhEstimateIsHornersRule : Prop :=
  ∀ (s : State) (t h : Fx),
    let k := addsat t constCK
    let xs := div1000 k.value
    let a4 := mac s.poly5 xs s.poly4
    let a3 := mac a4.value xs s.poly3
    let a2 := mac a3.value xs s.poly2
    let a1 := mac a2.value xs s.poly1
    let a0 := mac a1.value xs s.poly0
    let p := mac a0.value h 0
    ahMmHg s t h = ⟨p.value, k.ovf || a4.ovf || a3.ovf || a2.ovf || a1.ovf || a0.ovf || p.ovf⟩

/-- R192: with p the estimate in mmHg on the selected inputs, RES is p for mmHg, Torr and every unrecognised selector, and
mac(p, U, 0) for the other six units, with U of the stated pattern; OVF is set when any saturation occurs and nothing else
changes. -/
def Obligations.AhWritesTheEstimateInItsUnit : Prop :=
  ∀ (s : State) (src : Src),
    let p := ahMmHg s (tIn src s) (hIn src s)
    let plain : State := { s with res := p.value, status := { s.status with ovf := s.status.ovf || p.ovf } }
    let scaled (u : Fx) : State :=
      { s with res := (mac p.value u 0).value, status := { s.status with ovf := s.status.ovf || (p.ovf || (mac p.value u 0).ovf) } }
    exec (.ahMmhg src) s = .next plain ∧ exec (.ahTorr src) s = .next plain ∧
    (∀ n : BitVec 4, exec (.ahSel n src) s = .next plain) ∧
    exec (.ahPa src) s = .next (scaled constPa) ∧ exec (.ahBar src) s = .next (scaled constBar) ∧
    exec (.ahAt src) s = .next (scaled constAt) ∧ exec (.ahAtm src) s = .next (scaled constAtm) ∧
    exec (.ahMh2o src) s = .next (scaled constMh2o) ∧ exec (.ahPsi src) s = .next (scaled constPsi) ∧
    constPa = 0x00000085526E978D ∧ constBar = 0x0000000000575F62 ∧ constAt = 0x00000000005918A0 ∧
    constAtm = 0x0000000000563B76 ∧ constMh2o = 0x00000000037AF640 ∧ constPsi = 0x0000000004F34507

/-- Corner cases of AH: at T = 0.0 and H = 0.0 the result is 0 for every coefficient set, and with the coefficients
(1.0, 0, 0, 0, 0, 0) the result in mmHg is the humidity, exactly, for every temperature. -/
def Obligations.AhCornerCases : Prop :=
  (∀ (s : State) (src : Src), tIn src s = 0 → hIn src s = 0 → ∃ t, exec (.ahMmhg src) s = .next t ∧ t.res = 0) ∧
  (∀ (s : State) (src : Src), s.poly0 = 0x0000000100000000 → s.poly1 = 0 → s.poly2 = 0 → s.poly3 = 0 → s.poly4 = 0 →
    s.poly5 = 0 → ∃ t, exec (.ahMmhg src) s = .next t ∧ t.res = hIn src s)

/-! ### Tolerance (spec/46_tolerance.md) -/

/-- R200 and R202: every row of the temperature table, its condition, and its slope and intercept as the q of the document's
literals; Variant31 breaks at 90. The tolerance is the line of the row at the input. -/
def Obligations.TemperatureTableRows : Prop :=
  (∀ (v : Variant) (t : Fx), tolT v t = mac t (segT v t).slope (segT v t).intercept) ∧
  (∀ t : Fx,
    (t.toInt ≤ 0 → segT .variant30 t = ⟨0xFFFFFFFFFD70A3D7, 0x0000000033333333⟩) ∧
    (0 < t.toInt → t.toInt ≤ 65 * 2 ^ 32 → segT .variant30 t = ⟨0, 0x0000000033333333⟩) ∧
    (65 * 2 ^ 32 < t.toInt → segT .variant30 t = ⟨0x0000000001B71759, 0xFFFFFFFFC4467382⟩) ∧
    (t.toInt ≤ 0 → segT .variant31 t = ⟨0xFFFFFFFFFF5C28F6, 0x0000000033333333⟩) ∧
    (0 < t.toInt → t.toInt ≤ 90 * 2 ^ 32 → segT .variant31 t = ⟨0, 0x0000000033333333⟩) ∧
    (90 * 2 ^ 32 < t.toInt → segT .variant31 t = ⟨0x0000000002339C0F, 0xFFFFFFFF6DB8BAC7⟩) ∧
    (t.toInt ≤ 0 → segT .variant35 t = ⟨0, 0x0000000033333333⟩) ∧
    (0 < t.toInt → t.toInt ≤ 20 * 2 ^ 32 → segT .variant35 t = ⟨0xFFFFFFFFFEB851EC, 0x0000000033333333⟩) ∧
    (20 * 2 ^ 32 < t.toInt → t.toInt ≤ 60 * 2 ^ 32 → segT .variant35 t = ⟨0, 0x000000001999999A⟩) ∧
    (60 * 2 ^ 32 < t.toInt → t.toInt ≤ 90 * 2 ^ 32 → segT .variant35 t = ⟨0xFFFFFFFFFF27BB30, 0xFFFFFFFFE6666666⟩) ∧
    (90 * 2 ^ 32 < t.toInt → segT .variant35 t = ⟨0x0000000001758E22, 0xFFFFFFFFAF8A0903⟩)) ∧
  fxOfInt (quantise (-1) 100) = 0xFFFFFFFFFD70A3D7 ∧ fxOfInt (quantise 2 10) = 0x0000000033333333 ∧
  fxOfInt (quantise 67 10000) = 0x0000000001B71759 ∧ fxOfInt (quantise (-2333) 10000) = 0xFFFFFFFFC4467382 ∧
  fxOfInt (quantise (-25) 10000) = 0xFFFFFFFFFF5C28F6 ∧ fxOfInt (quantise 86 10000) = 0x0000000002339C0F ∧
  fxOfInt (quantise (-5714) 10000) = 0xFFFFFFFF6DB8BAC7 ∧ fxOfInt (quantise (-5) 1000) = 0xFFFFFFFFFEB851EC ∧
  fxOfInt (quantise 1 10) = 0x000000001999999A ∧ fxOfInt (quantise (-33) 10000) = 0xFFFFFFFFFF27BB30 ∧
  fxOfInt (quantise (-1) 10) = 0xFFFFFFFFE6666666 ∧ fxOfInt (quantise 57 10000) = 0x0000000001758E22 ∧
  fxOfInt (quantise (-3143) 10000) = 0xFFFFFFFFAF8A0903

/-- R205: every row of the humidity table, its condition, and its slope and intercept as the q of the document's literals. -/
def Obligations.HumidityTableRows : Prop :=
  (∀ h : Fx,
    (h.toInt < 10 * 2 ^ 32 → segH .variant30 h = ⟨0xFFFFFFFFCCCCCCCD, 0x0000000400000000⟩) ∧
    (10 * 2 ^ 32 ≤ h.toInt → h.toInt ≤ 90 * 2 ^ 32 → segH .variant30 h = ⟨0, 0x0000000200000000⟩) ∧
    (90 * 2 ^ 32 < h.toInt → segH .variant30 h = ⟨0x0000000033333333, 0xFFFFFFF000000000⟩) ∧
    segH .variant31 h = ⟨0, 0x0000000200000000⟩ ∧
    (h.toInt ≤ 80 * 2 ^ 32 → segH .variant35 h = ⟨0, 0x0000000180000000⟩) ∧
    (80 * 2 ^ 32 < h.toInt → segH .variant35 h = ⟨0x0000000006666666, 0xFFFFFFFF80000000⟩)) ∧
  fxOfInt (quantise (-2) 10) = 0xFFFFFFFFCCCCCCCD ∧ fxOfInt (quantise 4 1) = 0x0000000400000000 ∧
  fxOfInt (quantise 2 1) = 0x0000000200000000 ∧ fxOfInt (quantise 2 10) = 0x0000000033333333 ∧
  fxOfInt (quantise (-16) 1) = 0xFFFFFFF000000000 ∧ fxOfInt (quantise 15 10) = 0x0000000180000000 ∧
  fxOfInt (quantise 25 1000) = 0x0000000006666666 ∧ fxOfInt (quantise (-5) 10) = 0xFFFFFFFF80000000

/-- R208: the tolerance queries have no side effect: each writes RES and no other register and no flag, OVF among them. What
TOL_T.C, TOL_T.F and TOL_H write is the row's line at the selected input (times 1.8 for Fahrenheit), of the variant that CFG
holds then. Of TOL_T.K only that it writes RES is said here: its value is Obligations.KelvinToleranceIsTheCelsiusTolerance. -/
def Obligations.ToleranceQueriesWriteResOnly : Prop :=
  ∀ (s : State) (src : Src),
    let gt := segT s.cfg.variant (tIn src s)
    let gh := segH s.cfg.variant (hIn src s)
    let tol := (mac (tIn src s) gt.slope gt.intercept).value
    exec (.tolTC src) s = .next { s with res := tol } ∧
    exec (.tolTF src) s = .next { s with res := (mac tol constKF 0).value } ∧
    (∃ v : Fx, exec (.tolTK src) s = .next { s with res := v }) ∧
    exec (.tolH src) s = .next { s with res := (mac (hIn src s) gh.slope gh.intercept).value }

/-- The bounds the spec derives for the table (sections 1 and 2): no tolerance saturates for any variant and any input, and
each stays below its stated power of two. -/
def Obligations.TolerancesNeverSaturate : Prop :=
  ∀ (v : Variant) (x : Fx),
    (tolT v x).ovf = false ∧ (tolT v x).value.toInt.natAbs < 2 ^ 25 * 2 ^ 32 ∧
    (tolTFahrenheit v x).ovf = false ∧ (tolTFahrenheit v x).value.toInt.natAbs < 2 ^ 26 * 2 ^ 32 ∧
    (tolH v x).ovf = false ∧ (tolH v x).value.toInt.natAbs < 2 ^ 29 * 2 ^ 32

/-! ### Control and the bus (spec/47_control.md, 20_memory.md, 10_state.md) -/

/-- R220: NOP does nothing; its write stores 0 in CMD and changes no other register; SEL or SRC makes it illegal; after reset
it leaves every register at its reset value. -/
def Obligations.NopDoesNothing : Prop :=
  (∀ s : State, exec .nop s = .next s) ∧ decode 0x00000000 = .ok .nop ∧
  (∀ (s : State) (rest : List HostEvent),
    step (s.facing (commandWrite 0) rest) = .next ({ s with cmd := 0 }.answered rest (.write .okay))) ∧
  (∀ (s : State) (w : Word) (rest : List HostEvent), (w = 0x00000100 ∨ w = 0x00001000) → ∃ t,
    step (s.facing (commandWrite w) rest) = .next t ∧ t.status.err = true) ∧
  (∃ t, step (State.reset.facing (commandWrite 0) []) = .next t ∧ t.registersAtReset)

/-- An aligned 32-bit read answers OKAY with the word at the offset and changes no register (20_memory.md sections 2 and 4).
The words, register by register (10_state.md sections 2 to 11): a 64-bit register reads as the halves of its own field,
STATUS and CFG have each field at its bits, and a reserved offset reads 0. -/
def Obligations.ReadAnswersTheWordAndChangesNothing : Prop :=
  (∀ (s : State) (off : Offset) (rest : List HostEvent), off.toNat % 4 = 0 →
    step (s.facing (atOffset off (.read 4)) rest) = .next (s.answered rest (.read (s.readWord (busWord off)) .okay))) ∧
  (∀ (s : State) (rest : List HostEvent),
    ∀ p ∈ [(0x000#12, s.id), (0x004, s.cmd), (0x010, 0x00#8 ++ s.mbufT.msb ++ s.mbufT.lsb ++ s.mbufT.crc),
        (0x014, 0x00#8 ++ s.mbufH.msb ++ s.mbufH.lsb ++ s.mbufH.crc), (0x018, 0#24 ++ s.crcOut),
        (0x020, s.opa.extractLsb' 0 32), (0x024, s.opa.extractLsb' 32 32),
        (0x028, s.opb.extractLsb' 0 32), (0x02C, s.opb.extractLsb' 32 32),
        (0x030, s.res.extractLsb' 0 32), (0x034, s.res.extractLsb' 32 32),
        (0x038, s.temp.extractLsb' 0 32), (0x03C, s.temp.extractLsb' 32 32),
        (0x040, s.rh.extractLsb' 0 32), (0x044, s.rh.extractLsb' 32 32),
        (0x048, s.caltF.extractLsb' 0 32), (0x04C, s.caltF.extractLsb' 32 32),
        (0x050, s.caltS.extractLsb' 0 32), (0x054, s.caltS.extractLsb' 32 32),
        (0x058, s.calhF.extractLsb' 0 32), (0x05C, s.calhF.extractLsb' 32 32),
        (0x060, s.calhS.extractLsb' 0 32), (0x064, s.calhS.extractLsb' 32 32),
        (0x080, s.poly0.extractLsb' 0 32), (0x084, s.poly0.extractLsb' 32 32),
        (0x088, s.poly1.extractLsb' 0 32), (0x08C, s.poly1.extractLsb' 32 32),
        (0x090, s.poly2.extractLsb' 0 32), (0x094, s.poly2.extractLsb' 32 32),
        (0x098, s.poly3.extractLsb' 0 32), (0x09C, s.poly3.extractLsb' 32 32),
        (0x0A0, s.poly4.extractLsb' 0 32), (0x0A4, s.poly4.extractLsb' 32 32),
        (0x0A8, s.poly5.extractLsb' 0 32), (0x0AC, s.poly5.extractLsb' 32 32)],
      step (s.facing (atOffset p.1 (.read 4)) rest) = .next (s.answered rest (.read p.2 .okay))) ∧
  (∀ (s : State) (rest : List HostEvent), ∃ w : Word,
    step (s.facing (atOffset 0x008 (.read 4)) rest) = .next (s.answered rest (.read w .okay)) ∧
    w.getLsbD 0 = s.status.crcOk ∧ w.getLsbD 1 = s.status.tOk ∧ w.getLsbD 2 = s.status.hOk ∧ w.getLsbD 3 = s.status.upd ∧
    w.getLsbD 4 = s.status.valid ∧ w.getLsbD 8 = s.status.ovf ∧ w.getLsbD 9 = s.status.err ∧ w &&& 0xFFFFFCE0 = 0) ∧
  (∀ (s : State) (rest : List HostEvent), ∃ w : Word,
    step (s.facing (atOffset 0x00C (.read 4)) rest) = .next (s.answered rest (.read w .okay)) ∧
    (s.cfg.variant = .variant30 → w.extractLsb' 0 2 = 0b00#2) ∧ (s.cfg.variant = .variant31 → w.extractLsb' 0 2 = 0b01#2) ∧
    (s.cfg.variant = .variant35 → w.extractLsb' 0 2 = 0b10#2) ∧ w.getLsbD 8 = s.cfg.lock ∧ w &&& 0xFFFFFEFC = 0) ∧
  (∀ s : State, s.readWord .reserved = 0)

/-- The register map (20_memory.md section 1). Every named word is at its offset, and the offsets of the reserved ranges are reserved. -/
def Obligations.RegisterMapIsTheTable : Prop :=
  [busWord 0x000, busWord 0x004, busWord 0x008, busWord 0x00C, busWord 0x010, busWord 0x014, busWord 0x018] =
    [.id, .cmd, .status, .cfg, .mbufT, .mbufH, .crcOut] ∧
  [busWord 0x020, busWord 0x028, busWord 0x030, busWord 0x038, busWord 0x040, busWord 0x048, busWord 0x050, busWord 0x058,
    busWord 0x060] =
    [.lo .opa, .lo .opb, .lo .res, .lo .temp, .lo .rh, .lo .caltF, .lo .caltS, .lo .calhF, .lo .calhS] ∧
  [busWord 0x024, busWord 0x02C, busWord 0x034, busWord 0x03C, busWord 0x044, busWord 0x04C, busWord 0x054, busWord 0x05C,
    busWord 0x064] =
    [.hi .opa, .hi .opb, .hi .res, .hi .temp, .hi .rh, .hi .caltF, .hi .caltS, .hi .calhF, .hi .calhS] ∧
  [busWord 0x080, busWord 0x088, busWord 0x090, busWord 0x098, busWord 0x0A0, busWord 0x0A8] =
    [.lo .poly0, .lo .poly1, .lo .poly2, .lo .poly3, .lo .poly4, .lo .poly5] ∧
  [busWord 0x084, busWord 0x08C, busWord 0x094, busWord 0x09C, busWord 0x0A4, busWord 0x0AC] =
    [.hi .poly0, .hi .poly1, .hi .poly2, .hi .poly3, .hi .poly4, .hi .poly5] ∧
  (∀ off : Offset, off.toNat % 4 = 0 →
    (off.toNat = 0x01C ∨ (0x068 ≤ off.toNat ∧ off.toNat ≤ 0x07C) ∨ 0x0B0 ≤ off.toNat) → busWord off = .reserved)

/-- R62, R63 and R233: an access of another size than 4 bytes, or at an offset that is no multiple of 4, is answered ERROR
(data 0 for a read) and changes no register. -/
def Obligations.BusErrorChangesNoRegister : Prop :=
  (∀ (s : State) (off : Offset) (n : Nat) (rest : List HostEvent), (n ≠ 4 ∨ off.toNat % 4 ≠ 0) →
    step (s.facing (atOffset off (.read n)) rest) = .next (s.answered rest (.read 0 .error))) ∧
  (∀ (s : State) (off : Offset) (n : Nat) (v : Word) (rest : List HostEvent), (n ≠ 4 ∨ off.toNat % 4 ≠ 0) →
    step (s.facing (atOffset off (.write n v)) rest) = .next (s.answered rest (.write .error)))

/-- R25: a write to STATUS clears OVF by bit 8 and ERR by bit 9, and does nothing else. -/
def Obligations.StatusWriteClearsOvfAndErrOnly : Prop :=
  ∀ (s : State) (v : Word) (rest : List HostEvent),
    step (s.facing (atOffset 0x008 (.write 4 v)) rest) =
      .next ({ s with status := { s.status with
                        ovf := if v.getLsbD 8 then false else s.status.ovf,
                        err := if v.getLsbD 9 then false else s.status.err } }.answered rest (.write .okay))

/-- R27: a write to CFG is ignored while LOCK is 1; otherwise VARIANT takes a legal value and keeps its own on 0b11, and bit 8
sets LOCK; nothing else changes, and the answer is OKAY. TOL_T and TOL_H read the variant that CFG holds when they execute: what
they write is a function of that variant and the selected input (for TOL_T.K, which function is not said here). -/
def Obligations.CfgWriteIsWarlAndLocks : Prop :=
  (∀ (s : State) (src : Src),
    (∃ t, exec (.tolTC src) s = .next t ∧ t.res = (tolT s.cfg.variant (tIn src s)).value) ∧
    (∃ t, exec (.tolTF src) s = .next t ∧ t.res = (tolTFahrenheit s.cfg.variant (tIn src s)).value) ∧
    (∃ t, exec (.tolH src) s = .next t ∧ t.res = (tolH s.cfg.variant (hIn src s)).value)) ∧
  (∃ kelvin : Variant → Fx → Fx, ∀ (s : State) (src : Src),
    ∃ t, exec (.tolTK src) s = .next t ∧ t.res = kelvin s.cfg.variant (tIn src s)) ∧
  ∀ (s : State) (v : Word) (rest : List HostEvent),
    let after (c : CfgReg) : State := { s with cfg := c }.answered rest (.write .okay)
    (s.cfg.lock = true → step (s.facing (atOffset 0x00C (.write 4 v)) rest) = .next (after s.cfg)) ∧
    (s.cfg.lock = false → v.toNat % 4 = 0 →
      step (s.facing (atOffset 0x00C (.write 4 v)) rest) = .next (after ⟨.variant30, v.getLsbD 8⟩)) ∧
    (s.cfg.lock = false → v.toNat % 4 = 1 →
      step (s.facing (atOffset 0x00C (.write 4 v)) rest) = .next (after ⟨.variant31, v.getLsbD 8⟩)) ∧
    (s.cfg.lock = false → v.toNat % 4 = 2 →
      step (s.facing (atOffset 0x00C (.write 4 v)) rest) = .next (after ⟨.variant35, v.getLsbD 8⟩)) ∧
    (s.cfg.lock = false → v.toNat % 4 = 3 →
      step (s.facing (atOffset 0x00C (.write 4 v)) rest) = .next (after ⟨s.cfg.variant, v.getLsbD 8⟩))

/-- R68: a 64-bit register is its two words; a write to one word of a writable one replaces that half, leaves the other, and
changes no other register, and so does the step that serves the host's aligned write of it, answered OKAY; a command executed
between the two writes sees the mixed value; a read of a half answers the current bits. -/
def Obligations.HalfWritesAreIndependent : Prop :=
  (∀ (s : State) (r : FxReg), s.readWord (.hi r) ++ s.readWord (.lo r) = s.getFx r) ∧
  (∀ (s : State) (v : Word) (r : FxReg), r ∈ [FxReg.opa, .opb, .caltF, .caltS, .calhF, .calhS] →
    (s.writeWord (.lo r) v).readWord (.lo r) = v ∧ (s.writeWord (.lo r) v).readWord (.hi r) = s.readWord (.hi r) ∧
    (s.writeWord (.hi r) v).readWord (.hi r) = v ∧ (s.writeWord (.hi r) v).readWord (.lo r) = s.readWord (.lo r)) ∧
  (∀ (s : State) (v : Word) (r : FxReg) (b : BusWord), b ≠ .lo r → b ≠ .hi r →
    (s.writeWord (.lo r) v).readWord b = s.readWord b ∧ (s.writeWord (.hi r) v).readWord b = s.readWord b) ∧
  (∀ (s : State) (off : Offset) (v : Word) (rest : List HostEvent), off.toNat % 4 = 0 →
    busWord off ∈ [BusWord.lo .opa, .hi .opa, .lo .opb, .hi .opb, .lo .caltF, .hi .caltF, .lo .caltS, .hi .caltS,
      .lo .calhF, .hi .calhF, .lo .calhS, .hi .calhS] →
    step (s.facing (atOffset off (.write 4 v)) rest) = .next ((s.writeWord (busWord off) v).answered rest (.write .okay))) ∧
  (∀ (s : State) (v : Word) (rest : List HostEvent),
    ∀ p ∈ [(0x020#12, { s with opa := s.opa.extractLsb' 32 32 ++ v }), (0x024, { s with opa := v ++ s.opa.extractLsb' 0 32 }),
        (0x028, { s with opb := s.opb.extractLsb' 32 32 ++ v }), (0x02C, { s with opb := v ++ s.opb.extractLsb' 0 32 }),
        (0x048, { s with caltF := s.caltF.extractLsb' 32 32 ++ v }), (0x04C, { s with caltF := v ++ s.caltF.extractLsb' 0 32 }),
        (0x050, { s with caltS := s.caltS.extractLsb' 32 32 ++ v }), (0x054, { s with caltS := v ++ s.caltS.extractLsb' 0 32 }),
        (0x058, { s with calhF := s.calhF.extractLsb' 32 32 ++ v }), (0x05C, { s with calhF := v ++ s.calhF.extractLsb' 0 32 }),
        (0x060, { s with calhS := s.calhS.extractLsb' 32 32 ++ v }), (0x064, { s with calhS := v ++ s.calhS.extractLsb' 0 32 })],
      step (s.facing (atOffset p.1 (.write 4 v)) rest) = .next (p.2.answered rest (.write .okay))) ∧
  (∀ (s : State) (v : Word),
    exec (.getTC .operand) (s.writeWord (.lo .opa) v) =
      .next { s.writeWord (.lo .opa) v with res := s.readWord (.hi .opa) ++ v } ∧
    exec (.getTC .operand) (s.writeWord (.hi .opa) v) =
      .next { s.writeWord (.hi .opa) v with res := v ++ s.readWord (.lo .opa) }) ∧
  (∀ (s : State) (r : FxReg) (rest : List HostEvent),
    step (s.facing (atOffset (BusWord.lo r).offset (.read 4)) rest) = .next (s.answered rest (.read (s.readWord (.lo r)) .okay)) ∧
    step (s.facing (atOffset (BusWord.hi r).offset (.read 4)) rest) = .next (s.answered rest (.read (s.readWord (.hi r)) .okay)))

/-- R37: an aligned 32-bit write to a read-only register or a reserved offset changes nothing and is answered OKAY; reserved
fields read 0, and the bits a write carries in reserved fields, or in the read-only fields of STATUS, change nothing. -/
def Obligations.ReadOnlyAndReservedIgnoreWrites : Prop :=
  (∀ (s : State) (off : Offset) (v : Word) (rest : List HostEvent), off.toNat % 4 = 0 →
    busWord off ∈ [BusWord.id, .crcOut, .lo .res, .hi .res, .lo .temp, .hi .temp, .lo .rh, .hi .rh, .lo .poly0, .hi .poly0,
      .lo .poly1, .hi .poly1, .lo .poly2, .hi .poly2, .lo .poly3, .hi .poly3, .lo .poly4, .hi .poly4, .lo .poly5, .hi .poly5,
      .reserved] →
    step (s.facing (atOffset off (.write 4 v)) rest) = .next (s.answered rest (.write .okay))) ∧
  (∀ s : State, s.readWord .status &&& 0xFFFFFCE0 = 0 ∧ s.readWord .cfg &&& 0xFFFFFEFC = 0 ∧
    s.readWord .mbufT &&& 0xFF000000 = 0 ∧ s.readWord .mbufH &&& 0xFF000000 = 0 ∧ s.readWord .crcOut &&& 0xFFFFFF00 = 0 ∧
    s.readWord .reserved = 0) ∧
  (∀ (s : State) (v : Word) (rest : List HostEvent),
    ∀ p ∈ [(0x008#12, 0x00000300#32), (0x00C#12, 0x00000103#32), (0x010#12, 0x00FFFFFF#32), (0x014#12, 0x00FFFFFF#32)],
      ∃ t, step (s.facing (atOffset p.1 (.write 4 v)) rest) = .next t ∧
        step (s.facing (atOffset p.1 (.write 4 (v &&& p.2))) rest) = .next t ∧ t.answer = some (.write .okay))

/-- The buffer registers (10_state.md section 6): the step that serves an aligned 32-bit write keeps bits 23:0 as the group's
msb, lsb and checksum byte, changes nothing else, and is answered OKAY; the register reads back without bits 31:24; the raw
word is bits 23:8, msb the more significant. -/
def Obligations.BufferHoldsTheGroup : Prop :=
  (∀ (s : State) (off : Offset) (v : Word) (rest : List HostEvent), off.toNat % 4 = 0 → busWord off ∈ [BusWord.mbufT, .mbufH] →
    step (s.facing (atOffset off (.write 4 v)) rest) = .next ((s.writeWord (busWord off) v).answered rest (.write .okay))) ∧
  (∀ (s : State) (v : Word) (rest : List HostEvent),
    step (s.facing (atOffset 0x010 (.write 4 v)) rest) =
      .next ({ s with mbufT := ⟨v.extractLsb' 16 8, v.extractLsb' 8 8, v.extractLsb' 0 8⟩ }.answered rest (.write .okay)) ∧
    step (s.facing (atOffset 0x014 (.write 4 v)) rest) =
      .next ({ s with mbufH := ⟨v.extractLsb' 16 8, v.extractLsb' 8 8, v.extractLsb' 0 8⟩ }.answered rest (.write .okay))) ∧
  ∀ (s : State) (v : Word),
    (s.writeWord .mbufT v).readWord .mbufT = v &&& 0x00FFFFFF ∧ (s.writeWord .mbufH v).readWord .mbufH = v &&& 0x00FFFFFF ∧
    (s.writeWord .mbufT v).mbufT.raw = v.extractLsb' 8 16 ∧ (s.writeWord .mbufH v).mbufH.raw = v.extractLsb' 8 16 ∧
    s.mbufT.raw.toNat = s.mbufT.msb.toNat * 256 + s.mbufT.lsb.toNat ∧ s.mbufH.raw.toNat = s.mbufH.msb.toNat * 256 + s.mbufH.lsb.toNat

/-- A host address A reaches offset A - BASE when BASE <= A < BASE + 0x1000, whatever BASE is; a transaction anywhere else
changes no register of the block (20_memory.md section 1). That the block then gives no answer is the model's reading (log
entry 5). -/
def Obligations.HostAddressReachesTheWindow : Prop :=
  ∀ (s : State) (a : Nat) (acc : Access) (rest : List HostEvent),
    (Config.base ≤ a → a < Config.base + 0x1000 →
      step (s.facing (.transaction ⟨.address a, acc⟩) rest) = step (s.facing (atOffset (BitVec.ofNat 12 (a - Config.base)) acc) rest)) ∧
    (a < Config.base ∨ Config.base + 0x1000 ≤ a →
      step (s.facing (.transaction ⟨.address a, acc⟩) rest) =
        .next { s with host := rest, answer := none, resetAsserted := false })

/-! ### Reset (spec/10_state.md R41, spec/70_reset_and_hazards.md) -/

/-- R41: every register's value after reset; the POLY registers hold the parameter AH_POLY. -/
def Obligations.ResetValues : Prop :=
  let s := State.reset
  s.id = 0x53480007 ∧ s.cmd = 0 ∧ s.status.toWord = 0 ∧ s.cfg.toWord = 0 ∧ s.cfg.variant = .variant30 ∧ s.cfg.lock = false ∧
  s.mbufT.toWord = 0 ∧ s.mbufH.toWord = 0 ∧ s.readWord .crcOut = 0 ∧ s.opa = 0 ∧ s.opb = 0 ∧ s.res = 0 ∧ s.temp = 0 ∧
  s.rh = 0 ∧ s.status.valid = false ∧ s.caltF = 0x0000000100000000 ∧ s.calhF = 0x0000000100000000 ∧ s.caltS = 0 ∧ s.calhS = 0 ∧
  s.poly0 = Config.ahPoly 0 ∧ s.poly1 = Config.ahPoly 1 ∧ s.poly2 = Config.ahPoly 2 ∧ s.poly3 = Config.ahPoly 3 ∧
  s.poly4 = Config.ahPoly 4 ∧ s.poly5 = Config.ahPoly 5

/-- Reset puts every register at its reset value at once, whatever transaction was in progress; while it is asserted no
transaction is accepted; released, the block waits with its registers as they are (70_reset_and_hazards.md section 1). That
the reset input is a level in State, and that a transaction not accepted is dropped unanswered, is the model's choice (log
entry 3). -/
def Obligations.ResetInputResetsEveryRegister : Prop :=
  (∀ (s : State) (inProgress : Option Transaction) (rest : List HostEvent), ∃ t,
    step { s with host := .assertReset inProgress :: rest } = .next t ∧ t.registersAtReset ∧ t.resetAsserted = true ∧ t.host = rest) ∧
  (∀ (s : State) (tr : Transaction) (rest : List HostEvent), s.resetAsserted = true →
    step { s with host := .transaction tr :: rest } = .next { s with host := rest, answer := none }) ∧
  (∀ (s : State) (rest : List HostEvent),
    step { s with host := .releaseReset :: rest } = .next { s with host := rest, answer := none, resetAsserted := false })

/-! ### The whole machine -/

/-- Reset meets the invariant. -/
def Obligations.ResetMeetsTheInvariant : Prop := State.reset.Inv

/-- Every step keeps the invariant, from every state: ID and the POLY registers keep their constants, UPD stays T_OK and
H_OK, an update leaves VALID set, TEMP and RH hold their reset value while VALID is 0, and every register is at its reset
value while reset is asserted. -/
def Obligations.StepKeepsTheInvariant : Prop :=
  ∀ s t : State, s.Inv → step s = .next t → t.Inv

/-- The sticky flags (10_state.md section 4). No command clears OVF or ERR, a legal command leaves ERR as it was, a step clears OVF (or ERR) only
by a write of 1 to its bit of STATUS or by reset. -/
def Obligations.StickyFlagsStay : Prop :=
  (∀ (i : Instr) (s : State), ∃ t, exec i s = .next t ∧ t.status.err = s.status.err ∧ (s.status.ovf = true → t.status.ovf = true)) ∧
  (∀ s t : State, step s = .next t → s.status.ovf = true → t.status.ovf = false →
    ∃ e rest, s.host = e :: rest ∧ (e.assertsReset ∨ ∃ v, s.acceptsWrite e .status v ∧ v.getLsbD 8 = true)) ∧
  (∀ s t : State, step s = .next t → s.status.err = true → t.status.err = false →
    ∃ e rest, s.host = e :: rest ∧ (e.assertsReset ∨ ∃ v, s.acceptsWrite e .status v ∧ v.getLsbD 9 = true))

/-- The lock (10_state.md section 5; 70_reset_and_hazards.md section 3): once LOCK is 1, no step changes CFG but reset. -/
def Obligations.LockHoldsUntilReset : Prop :=
  ∀ s t : State, step s = .next t → s.cfg.lock = true → t.cfg ≠ s.cfg → ∃ e rest, s.host = e :: rest ∧ e.assertsReset

/-- R22: an accepted write of `w` to CMD, legal or not, leaves `w` in CMD, and then executes it (an illegal word sets ERR); no
other event changes CMD but reset, which leaves 0; and a read of CMD answers what it holds and changes no register. -/
def Obligations.CmdHoldsTheLastWordWritten : Prop :=
  (∀ (s : State) (e : HostEvent) (rest : List HostEvent) (w : Word), s.host = e :: rest → s.acceptsWrite e .cmd w →
    ∃ t, step s = .next t ∧ t.cmd = w) ∧
  (∀ s t : State, step s = .next t → t.cmd ≠ s.cmd → ∃ e rest, s.host = e :: rest ∧
    ((e.assertsReset ∧ t.cmd = 0) ∨ s.acceptsWrite e .cmd t.cmd)) ∧
  (∀ (s : State) (rest : List HostEvent),
    step (s.facing (atOffset 0x004 (.read 4)) rest) = .next (s.answered rest (.read s.cmd .okay))) ∧
  (∀ (s : State) (w : Word) (i : Instr) (rest : List HostEvent), decode w = .ok i →
    step (s.facing (atOffset 0x004 (.write 4 w)) rest) =
      onNext (exec i { s with cmd := w, host := rest, resetAsserted := false }) fun t => { t with answer := some (.write .okay) }) ∧
  (∀ (s : State) (w : Word) (r : DecodeError) (rest : List HostEvent), decode w = .error r →
    step (s.facing (atOffset 0x004 (.write 4 w)) rest) =
      .next ({ s with cmd := w, status := { s.status with err := true } }.answered rest (.write .okay))) ∧
  State.reset.cmd = 0

/-- What commands write (10_state.md sections 6 to 11): every command completes; none writes ID, CMD, CFG, the buffer, operand,
calibration or coefficient registers, or the host's side; RES, CRC_OUT, CRC_OK, TEMP, RH and FRAME's flags are written only by
the commands named for them; OVF only by the commands that can saturate (60_exceptions.md section 1); ERR by none. -/
def Obligations.CommandsWriteOnlyTheirRegisters : Prop :=
  ∀ (i : Instr) (s : State), ∃ t, exec i s = .next t ∧
    t.id = s.id ∧ t.cmd = s.cmd ∧ t.cfg = s.cfg ∧ t.mbufT = s.mbufT ∧ t.mbufH = s.mbufH ∧ t.opa = s.opa ∧ t.opb = s.opb ∧
    t.caltF = s.caltF ∧ t.caltS = s.caltS ∧ t.calhF = s.calhF ∧ t.calhS = s.calhS ∧ t.poly0 = s.poly0 ∧ t.poly1 = s.poly1 ∧
    t.poly2 = s.poly2 ∧ t.poly3 = s.poly3 ∧ t.poly4 = s.poly4 ∧ t.poly5 = s.poly5 ∧ t.host = s.host ∧ t.answer = s.answer ∧
    t.resetAsserted = s.resetAsserted ∧ t.status.err = s.status.err ∧
    (writesRes i = false → t.res = s.res) ∧ (writesCrcOut i = false → t.crcOut = s.crcOut) ∧
    (writesCrcOk i = false → t.status.crcOk = s.status.crcOk) ∧ (canSaturate i = false → t.status.ovf = s.status.ovf) ∧
    (i ≠ .frame → t.temp = s.temp ∧ t.rh = s.rh ∧ t.status.tOk = s.status.tOk ∧ t.status.hOk = s.status.hOk ∧
      t.status.upd = s.status.upd ∧ t.status.valid = s.status.valid)

/-- The block takes no trap and never stops (60_exceptions.md section 4): every step answers a next state; and with no event
waiting, the state stays as it is (00_scope.md section 4). -/
def Obligations.EveryStepAnswersANextState : Prop :=
  (∀ s : State, ∃ t, step s = .next t) ∧ (∀ s : State, s.host = [] → step s = .next s)

/-- R102: the expansions of the pseudo-instructions, as writes and reads at the offsets of R61 and words of R96; CRC_OK is
bit 0 of the word that VALIDATE reads. -/
def Obligations.PseudoInstructionsExpand : Prop :=
  (∀ s : State, (s.readWord .status).getLsbD 0 = s.status.crcOk) ∧
  (∀ b0 b1 b2 b3 b4 b5 : Byte, (HostLine.loadFrame b0 b1 b2 b3 b4 b5).expand =
    [atOffset 0x010 (.write 4 (0x00#8 ++ b0 ++ b1 ++ b2)), atOffset 0x014 (.write 4 (0x00#8 ++ b3 ++ b4 ++ b5))]) ∧
  (∀ b0 b1 b2 b3 b4 b5 : Byte, (HostLine.update b0 b1 b2 b3 b4 b5).expand =
    (HostLine.loadFrame b0 b1 b2 b3 b4 b5).expand ++ [atOffset 0x004 (.write 4 0x00000007)]) ∧
  (∀ a b c : Byte, (HostLine.validate a b c).expand =
    [atOffset 0x010 (.write 4 (0x00#8 ++ a ++ b ++ c)), atOffset 0x004 (.write 4 0x00000002), atOffset 0x008 (.read 4)]) ∧
  (∀ a b : Byte, (HostLine.compute a b).expand =
    [atOffset 0x010 (.write 4 (0x00#8 ++ a ++ b ++ 0x00#8)), atOffset 0x004 (.write 4 0x00000001), atOffset 0x018 (.read 4)]) ∧
  (∀ f s : Fx, (HostLine.setCalT f s).expand =
    [atOffset 0x048 (.write 4 (f.extractLsb' 0 32)), atOffset 0x04C (.write 4 (f.extractLsb' 32 32)),
     atOffset 0x050 (.write 4 (s.extractLsb' 0 32)), atOffset 0x054 (.write 4 (s.extractLsb' 32 32))]) ∧
  (∀ f s : Fx, (HostLine.setCalH f s).expand =
    [atOffset 0x058 (.write 4 (f.extractLsb' 0 32)), atOffset 0x05C (.write 4 (f.extractLsb' 32 32)),
     atOffset 0x060 (.write 4 (s.extractLsb' 0 32)), atOffset 0x064 (.write 4 (s.extractLsb' 32 32))]) ∧
  [(HostLine.setVar .variant30).expand, (HostLine.setVar .variant31).expand, (HostLine.setVar .variant35).expand] =
    [[atOffset 0x00C (.write 4 0)], [atOffset 0x00C (.write 4 1)], [atOffset 0x00C (.write 4 2)]] ∧
  [(HostLine.setVarLock .variant30).expand, (HostLine.setVarLock .variant31).expand, (HostLine.setVarLock .variant35).expand] =
    [[atOffset 0x00C (.write 4 0x100)], [atOffset 0x00C (.write 4 0x101)], [atOffset 0x00C (.write 4 0x102)]] ∧
  HostLine.clrFlags.expand = [atOffset 0x008 (.write 4 0x00000300)]

/-! ### The Kelvin tolerance (spec/46_tolerance.md section 1) -/

/-- TOL_T.K writes RES with the Celsius tolerance unchanged and changes nothing else. That the two are equal is R204's decision,
which the spec marks "[from general knowledge, not in source]"; the model follows it (log entry 15). -/
def Obligations.KelvinToleranceIsTheCelsiusTolerance : Prop :=
  ∀ (s : State) (src : Src),
    let g := segT s.cfg.variant (tIn src s)
    exec (.tolTK src) s = .next { s with res := (mac (tIn src s) g.slope g.intercept).value } ∧
    exec (.tolTK src) s = exec (.tolTC src) s
end

