-- ==== Sys2Proof/Laws/Numerics.lean ====
section
/-! SUPPORT. Laws/Numerics.lean: what the fixed-point operations answer, once each. -/

namespace Sys2Proof.Machine

/-- An FX value is in the FX range (spec/40_numerics.md R120). -/
theorem fxInt_range (a : Fx) : -2 ^ 63 ≤ fxInt a ∧ fxInt a ≤ 2 ^ 63 - 1 := by
  have h1 := BitVec.le_toInt a
  have h2 := BitVec.toInt_lt (x := a)
  simp only [fxInt]
  omega

/-- The pattern of an integer in range stands for it. -/
theorem fxInt_fxOfInt (n : Int) (h1 : -2 ^ 63 ≤ n) (h2 : n ≤ 2 ^ 63 - 1) : fxInt (fxOfInt n) = n := by
  simp only [fxInt, fxOfInt, BitVec.toInt_ofInt]
  rw [Int.bmod_eq_of_le] <;> omega

/-- A pattern is the pattern of its integer. -/
@[simp] theorem fxOfInt_fxInt (a : Fx) : fxOfInt (fxInt a) = a := by simp [fxOfInt, fxInt]

/-- All `sat64` can do (R123): above, below, or inside the range. -/
theorem sat64_cases (n : Int) :
    (n > fxMax ∧ sat64 n = ⟨fxOfInt fxMax, true⟩) ∨ (n < fxMin ∧ sat64 n = ⟨fxOfInt fxMin, true⟩) ∨
      (fxMin ≤ n ∧ n ≤ fxMax ∧ sat64 n = ⟨fxOfInt n, false⟩) := by
  unfold sat64
  by_cases h1 : n > fxMax
  · exact .inl ⟨h1, by simp [h1]⟩
  · by_cases h2 : n < fxMin
    · exact .inr (.inl ⟨h2, by simp [h1, h2]⟩)
    · exact .inr (.inr ⟨by omega, by omega, by simp [h1, h2]⟩)

/-- An FX value passes `sat64` unchanged. -/
@[simp] theorem sat64_fxInt (a : Fx) : sat64 (fxInt a) = ⟨a, false⟩ := by
  have := fxInt_range a
  rcases sat64_cases (fxInt a) with h | h | ⟨_, _, h⟩
  · simp only [fxMax] at h; omega
  · simp only [fxMin] at h; omega
  · simp [h]

/-- In range, the value of `sat64` is the integer itself. -/
theorem sat64_in_range (n : Int) (h1 : fxMin ≤ n) (h2 : n ≤ fxMax) : (sat64 n).ovf = false ∧ fxInt (sat64 n).value = n := by
  rcases sat64_cases n with h | h | ⟨_, _, h⟩
  · omega
  · omega
  · rw [h]
    exact ⟨rfl, fxInt_fxOfInt n (by simpa [fxMin] using h1) (by simpa [fxMax] using h2)⟩

/-- The floor of `rnd32`, as two inequalities (R121). -/
theorem rnd32_bounds (n : Int) : 2 ^ 32 * rnd32 n ≤ n + 2 ^ 31 ∧ n + 2 ^ 31 < 2 ^ 32 * (rnd32 n + 1) := by
  unfold rnd32
  omega

/-- `rnd32` of an exact FX multiple is that multiple. -/
theorem rnd32_exact (a : Int) : rnd32 (a * 2 ^ 32) = a := by
  unfold rnd32
  omega

/-- A product with the FX pattern 0 rounds to 0. -/
@[simp] theorem rnd32_zero : rnd32 0 = 0 := by decide

theorem fxInt_zero : fxInt 0 = 0 := by decide

/-- What `andThen` reports: an overflow of either step. -/
@[simp] theorem SatFx.andThen_value (x : SatFx) (f : Fx → SatFx) : (x.andThen f).value = (f x.value).value := rfl

@[simp] theorem SatFx.andThen_ovf (x : SatFx) (f : Fx → SatFx) : (x.andThen f).ovf = (x.ovf || (f x.value).ovf) := rfl

@[simp] theorem SatFx.exact_value (v : Fx) : (SatFx.exact v).value = v := rfl

@[simp] theorem SatFx.exact_ovf (v : Fx) : (SatFx.exact v).ovf = false := rfl

end Sys2Proof.Machine
end

