-- ==== Sys2Proof/Laws/State.lean ====
section
/-! SUPPORT. Laws/State.lean: one lemma per field per update, so that no later proof unfolds a record update. -/

namespace Sys2Proof.Machine

/-! ### writeResult -/

@[simp] theorem State.writeResult_id (s : State) (r : SatFx) : (s.writeResult r).id = s.id := rfl
@[simp] theorem State.writeResult_cmd (s : State) (r : SatFx) : (s.writeResult r).cmd = s.cmd := rfl
@[simp] theorem State.writeResult_status (s : State) (r : SatFx) : (s.writeResult r).status = s.status.noteOverflow r.ovf := rfl
@[simp] theorem State.writeResult_cfg (s : State) (r : SatFx) : (s.writeResult r).cfg = s.cfg := rfl
@[simp] theorem State.writeResult_mbufT (s : State) (r : SatFx) : (s.writeResult r).mbufT = s.mbufT := rfl
@[simp] theorem State.writeResult_mbufH (s : State) (r : SatFx) : (s.writeResult r).mbufH = s.mbufH := rfl
@[simp] theorem State.writeResult_crcOut (s : State) (r : SatFx) : (s.writeResult r).crcOut = s.crcOut := rfl
@[simp] theorem State.writeResult_opa (s : State) (r : SatFx) : (s.writeResult r).opa = s.opa := rfl
@[simp] theorem State.writeResult_opb (s : State) (r : SatFx) : (s.writeResult r).opb = s.opb := rfl
@[simp] theorem State.writeResult_res (s : State) (r : SatFx) : (s.writeResult r).res = r.value := rfl
@[simp] theorem State.writeResult_temp (s : State) (r : SatFx) : (s.writeResult r).temp = s.temp := rfl
@[simp] theorem State.writeResult_rh (s : State) (r : SatFx) : (s.writeResult r).rh = s.rh := rfl
@[simp] theorem State.writeResult_caltF (s : State) (r : SatFx) : (s.writeResult r).caltF = s.caltF := rfl
@[simp] theorem State.writeResult_caltS (s : State) (r : SatFx) : (s.writeResult r).caltS = s.caltS := rfl
@[simp] theorem State.writeResult_calhF (s : State) (r : SatFx) : (s.writeResult r).calhF = s.calhF := rfl
@[simp] theorem State.writeResult_calhS (s : State) (r : SatFx) : (s.writeResult r).calhS = s.calhS := rfl
@[simp] theorem State.writeResult_poly0 (s : State) (r : SatFx) : (s.writeResult r).poly0 = s.poly0 := rfl
@[simp] theorem State.writeResult_poly1 (s : State) (r : SatFx) : (s.writeResult r).poly1 = s.poly1 := rfl
@[simp] theorem State.writeResult_poly2 (s : State) (r : SatFx) : (s.writeResult r).poly2 = s.poly2 := rfl
@[simp] theorem State.writeResult_poly3 (s : State) (r : SatFx) : (s.writeResult r).poly3 = s.poly3 := rfl
@[simp] theorem State.writeResult_poly4 (s : State) (r : SatFx) : (s.writeResult r).poly4 = s.poly4 := rfl
@[simp] theorem State.writeResult_poly5 (s : State) (r : SatFx) : (s.writeResult r).poly5 = s.poly5 := rfl
@[simp] theorem State.writeResult_host (s : State) (r : SatFx) : (s.writeResult r).host = s.host := rfl
@[simp] theorem State.writeResult_answer (s : State) (r : SatFx) : (s.writeResult r).answer = s.answer := rfl
@[simp] theorem State.writeResult_resetAsserted (s : State) (r : SatFx) : (s.writeResult r).resetAsserted = s.resetAsserted := rfl

/-! ### writeCrc -/

@[simp] theorem State.writeCrc_id (s : State) (c : Byte) : (s.writeCrc c).id = s.id := rfl
@[simp] theorem State.writeCrc_cmd (s : State) (c : Byte) : (s.writeCrc c).cmd = s.cmd := rfl
@[simp] theorem State.writeCrc_status (s : State) (c : Byte) : (s.writeCrc c).status = s.status := rfl
@[simp] theorem State.writeCrc_cfg (s : State) (c : Byte) : (s.writeCrc c).cfg = s.cfg := rfl
@[simp] theorem State.writeCrc_mbufT (s : State) (c : Byte) : (s.writeCrc c).mbufT = s.mbufT := rfl
@[simp] theorem State.writeCrc_mbufH (s : State) (c : Byte) : (s.writeCrc c).mbufH = s.mbufH := rfl
@[simp] theorem State.writeCrc_crcOut (s : State) (c : Byte) : (s.writeCrc c).crcOut = c := rfl
@[simp] theorem State.writeCrc_opa (s : State) (c : Byte) : (s.writeCrc c).opa = s.opa := rfl
@[simp] theorem State.writeCrc_opb (s : State) (c : Byte) : (s.writeCrc c).opb = s.opb := rfl
@[simp] theorem State.writeCrc_res (s : State) (c : Byte) : (s.writeCrc c).res = s.res := rfl
@[simp] theorem State.writeCrc_temp (s : State) (c : Byte) : (s.writeCrc c).temp = s.temp := rfl
@[simp] theorem State.writeCrc_rh (s : State) (c : Byte) : (s.writeCrc c).rh = s.rh := rfl
@[simp] theorem State.writeCrc_caltF (s : State) (c : Byte) : (s.writeCrc c).caltF = s.caltF := rfl
@[simp] theorem State.writeCrc_caltS (s : State) (c : Byte) : (s.writeCrc c).caltS = s.caltS := rfl
@[simp] theorem State.writeCrc_calhF (s : State) (c : Byte) : (s.writeCrc c).calhF = s.calhF := rfl
@[simp] theorem State.writeCrc_calhS (s : State) (c : Byte) : (s.writeCrc c).calhS = s.calhS := rfl
@[simp] theorem State.writeCrc_poly0 (s : State) (c : Byte) : (s.writeCrc c).poly0 = s.poly0 := rfl
@[simp] theorem State.writeCrc_poly1 (s : State) (c : Byte) : (s.writeCrc c).poly1 = s.poly1 := rfl
@[simp] theorem State.writeCrc_poly2 (s : State) (c : Byte) : (s.writeCrc c).poly2 = s.poly2 := rfl
@[simp] theorem State.writeCrc_poly3 (s : State) (c : Byte) : (s.writeCrc c).poly3 = s.poly3 := rfl
@[simp] theorem State.writeCrc_poly4 (s : State) (c : Byte) : (s.writeCrc c).poly4 = s.poly4 := rfl
@[simp] theorem State.writeCrc_poly5 (s : State) (c : Byte) : (s.writeCrc c).poly5 = s.poly5 := rfl
@[simp] theorem State.writeCrc_host (s : State) (c : Byte) : (s.writeCrc c).host = s.host := rfl
@[simp] theorem State.writeCrc_answer (s : State) (c : Byte) : (s.writeCrc c).answer = s.answer := rfl
@[simp] theorem State.writeCrc_resetAsserted (s : State) (c : Byte) : (s.writeCrc c).resetAsserted = s.resetAsserted := rfl

/-! ### writeCrcOk -/

@[simp] theorem State.writeCrcOk_id (s : State) (ok : Bool) : (s.writeCrcOk ok).id = s.id := rfl
@[simp] theorem State.writeCrcOk_cmd (s : State) (ok : Bool) : (s.writeCrcOk ok).cmd = s.cmd := rfl
@[simp] theorem State.writeCrcOk_status (s : State) (ok : Bool) : (s.writeCrcOk ok).status = s.status.noteCrc ok := rfl
@[simp] theorem State.writeCrcOk_cfg (s : State) (ok : Bool) : (s.writeCrcOk ok).cfg = s.cfg := rfl
@[simp] theorem State.writeCrcOk_mbufT (s : State) (ok : Bool) : (s.writeCrcOk ok).mbufT = s.mbufT := rfl
@[simp] theorem State.writeCrcOk_mbufH (s : State) (ok : Bool) : (s.writeCrcOk ok).mbufH = s.mbufH := rfl
@[simp] theorem State.writeCrcOk_crcOut (s : State) (ok : Bool) : (s.writeCrcOk ok).crcOut = s.crcOut := rfl
@[simp] theorem State.writeCrcOk_opa (s : State) (ok : Bool) : (s.writeCrcOk ok).opa = s.opa := rfl
@[simp] theorem State.writeCrcOk_opb (s : State) (ok : Bool) : (s.writeCrcOk ok).opb = s.opb := rfl
@[simp] theorem State.writeCrcOk_res (s : State) (ok : Bool) : (s.writeCrcOk ok).res = s.res := rfl
@[simp] theorem State.writeCrcOk_temp (s : State) (ok : Bool) : (s.writeCrcOk ok).temp = s.temp := rfl
@[simp] theorem State.writeCrcOk_rh (s : State) (ok : Bool) : (s.writeCrcOk ok).rh = s.rh := rfl
@[simp] theorem State.writeCrcOk_caltF (s : State) (ok : Bool) : (s.writeCrcOk ok).caltF = s.caltF := rfl
@[simp] theorem State.writeCrcOk_caltS (s : State) (ok : Bool) : (s.writeCrcOk ok).caltS = s.caltS := rfl
@[simp] theorem State.writeCrcOk_calhF (s : State) (ok : Bool) : (s.writeCrcOk ok).calhF = s.calhF := rfl
@[simp] theorem State.writeCrcOk_calhS (s : State) (ok : Bool) : (s.writeCrcOk ok).calhS = s.calhS := rfl
@[simp] theorem State.writeCrcOk_poly0 (s : State) (ok : Bool) : (s.writeCrcOk ok).poly0 = s.poly0 := rfl
@[simp] theorem State.writeCrcOk_poly1 (s : State) (ok : Bool) : (s.writeCrcOk ok).poly1 = s.poly1 := rfl
@[simp] theorem State.writeCrcOk_poly2 (s : State) (ok : Bool) : (s.writeCrcOk ok).poly2 = s.poly2 := rfl
@[simp] theorem State.writeCrcOk_poly3 (s : State) (ok : Bool) : (s.writeCrcOk ok).poly3 = s.poly3 := rfl
@[simp] theorem State.writeCrcOk_poly4 (s : State) (ok : Bool) : (s.writeCrcOk ok).poly4 = s.poly4 := rfl
@[simp] theorem State.writeCrcOk_poly5 (s : State) (ok : Bool) : (s.writeCrcOk ok).poly5 = s.poly5 := rfl
@[simp] theorem State.writeCrcOk_host (s : State) (ok : Bool) : (s.writeCrcOk ok).host = s.host := rfl
@[simp] theorem State.writeCrcOk_answer (s : State) (ok : Bool) : (s.writeCrcOk ok).answer = s.answer := rfl
@[simp] theorem State.writeCrcOk_resetAsserted (s : State) (ok : Bool) : (s.writeCrcOk ok).resetAsserted = s.resetAsserted := rfl

/-! ### recordChecks -/

@[simp] theorem State.recordChecks_id (s : State) (tok hok : Bool) : (s.recordChecks tok hok).id = s.id := rfl
@[simp] theorem State.recordChecks_cmd (s : State) (tok hok : Bool) : (s.recordChecks tok hok).cmd = s.cmd := rfl
@[simp] theorem State.recordChecks_status (s : State) (tok hok : Bool) : (s.recordChecks tok hok).status = s.status.noteChecks tok hok := rfl
@[simp] theorem State.recordChecks_cfg (s : State) (tok hok : Bool) : (s.recordChecks tok hok).cfg = s.cfg := rfl
@[simp] theorem State.recordChecks_mbufT (s : State) (tok hok : Bool) : (s.recordChecks tok hok).mbufT = s.mbufT := rfl
@[simp] theorem State.recordChecks_mbufH (s : State) (tok hok : Bool) : (s.recordChecks tok hok).mbufH = s.mbufH := rfl
@[simp] theorem State.recordChecks_crcOut (s : State) (tok hok : Bool) : (s.recordChecks tok hok).crcOut = s.crcOut := rfl
@[simp] theorem State.recordChecks_opa (s : State) (tok hok : Bool) : (s.recordChecks tok hok).opa = s.opa := rfl
@[simp] theorem State.recordChecks_opb (s : State) (tok hok : Bool) : (s.recordChecks tok hok).opb = s.opb := rfl
@[simp] theorem State.recordChecks_res (s : State) (tok hok : Bool) : (s.recordChecks tok hok).res = s.res := rfl
@[simp] theorem State.recordChecks_temp (s : State) (tok hok : Bool) : (s.recordChecks tok hok).temp = s.temp := rfl
@[simp] theorem State.recordChecks_rh (s : State) (tok hok : Bool) : (s.recordChecks tok hok).rh = s.rh := rfl
@[simp] theorem State.recordChecks_caltF (s : State) (tok hok : Bool) : (s.recordChecks tok hok).caltF = s.caltF := rfl
@[simp] theorem State.recordChecks_caltS (s : State) (tok hok : Bool) : (s.recordChecks tok hok).caltS = s.caltS := rfl
@[simp] theorem State.recordChecks_calhF (s : State) (tok hok : Bool) : (s.recordChecks tok hok).calhF = s.calhF := rfl
@[simp] theorem State.recordChecks_calhS (s : State) (tok hok : Bool) : (s.recordChecks tok hok).calhS = s.calhS := rfl
@[simp] theorem State.recordChecks_poly0 (s : State) (tok hok : Bool) : (s.recordChecks tok hok).poly0 = s.poly0 := rfl
@[simp] theorem State.recordChecks_poly1 (s : State) (tok hok : Bool) : (s.recordChecks tok hok).poly1 = s.poly1 := rfl
@[simp] theorem State.recordChecks_poly2 (s : State) (tok hok : Bool) : (s.recordChecks tok hok).poly2 = s.poly2 := rfl
@[simp] theorem State.recordChecks_poly3 (s : State) (tok hok : Bool) : (s.recordChecks tok hok).poly3 = s.poly3 := rfl
@[simp] theorem State.recordChecks_poly4 (s : State) (tok hok : Bool) : (s.recordChecks tok hok).poly4 = s.poly4 := rfl
@[simp] theorem State.recordChecks_poly5 (s : State) (tok hok : Bool) : (s.recordChecks tok hok).poly5 = s.poly5 := rfl
@[simp] theorem State.recordChecks_host (s : State) (tok hok : Bool) : (s.recordChecks tok hok).host = s.host := rfl
@[simp] theorem State.recordChecks_answer (s : State) (tok hok : Bool) : (s.recordChecks tok hok).answer = s.answer := rfl
@[simp] theorem State.recordChecks_resetAsserted (s : State) (tok hok : Bool) : (s.recordChecks tok hok).resetAsserted = s.resetAsserted := rfl

/-! ### cacheReading -/

@[simp] theorem State.cacheReading_id (s : State) (t h : SatFx) : (s.cacheReading t h).id = s.id := rfl
@[simp] theorem State.cacheReading_cmd (s : State) (t h : SatFx) : (s.cacheReading t h).cmd = s.cmd := rfl
@[simp] theorem State.cacheReading_status (s : State) (t h : SatFx) : (s.cacheReading t h).status = s.status.noteValid.noteOverflow (t.ovf || h.ovf) := rfl
@[simp] theorem State.cacheReading_cfg (s : State) (t h : SatFx) : (s.cacheReading t h).cfg = s.cfg := rfl
@[simp] theorem State.cacheReading_mbufT (s : State) (t h : SatFx) : (s.cacheReading t h).mbufT = s.mbufT := rfl
@[simp] theorem State.cacheReading_mbufH (s : State) (t h : SatFx) : (s.cacheReading t h).mbufH = s.mbufH := rfl
@[simp] theorem State.cacheReading_crcOut (s : State) (t h : SatFx) : (s.cacheReading t h).crcOut = s.crcOut := rfl
@[simp] theorem State.cacheReading_opa (s : State) (t h : SatFx) : (s.cacheReading t h).opa = s.opa := rfl
@[simp] theorem State.cacheReading_opb (s : State) (t h : SatFx) : (s.cacheReading t h).opb = s.opb := rfl
@[simp] theorem State.cacheReading_res (s : State) (t h : SatFx) : (s.cacheReading t h).res = s.res := rfl
@[simp] theorem State.cacheReading_temp (s : State) (t h : SatFx) : (s.cacheReading t h).temp = t.value := rfl
@[simp] theorem State.cacheReading_rh (s : State) (t h : SatFx) : (s.cacheReading t h).rh = h.value := rfl
@[simp] theorem State.cacheReading_caltF (s : State) (t h : SatFx) : (s.cacheReading t h).caltF = s.caltF := rfl
@[simp] theorem State.cacheReading_caltS (s : State) (t h : SatFx) : (s.cacheReading t h).caltS = s.caltS := rfl
@[simp] theorem State.cacheReading_calhF (s : State) (t h : SatFx) : (s.cacheReading t h).calhF = s.calhF := rfl
@[simp] theorem State.cacheReading_calhS (s : State) (t h : SatFx) : (s.cacheReading t h).calhS = s.calhS := rfl
@[simp] theorem State.cacheReading_poly0 (s : State) (t h : SatFx) : (s.cacheReading t h).poly0 = s.poly0 := rfl
@[simp] theorem State.cacheReading_poly1 (s : State) (t h : SatFx) : (s.cacheReading t h).poly1 = s.poly1 := rfl
@[simp] theorem State.cacheReading_poly2 (s : State) (t h : SatFx) : (s.cacheReading t h).poly2 = s.poly2 := rfl
@[simp] theorem State.cacheReading_poly3 (s : State) (t h : SatFx) : (s.cacheReading t h).poly3 = s.poly3 := rfl
@[simp] theorem State.cacheReading_poly4 (s : State) (t h : SatFx) : (s.cacheReading t h).poly4 = s.poly4 := rfl
@[simp] theorem State.cacheReading_poly5 (s : State) (t h : SatFx) : (s.cacheReading t h).poly5 = s.poly5 := rfl
@[simp] theorem State.cacheReading_host (s : State) (t h : SatFx) : (s.cacheReading t h).host = s.host := rfl
@[simp] theorem State.cacheReading_answer (s : State) (t h : SatFx) : (s.cacheReading t h).answer = s.answer := rfl
@[simp] theorem State.cacheReading_resetAsserted (s : State) (t h : SatFx) : (s.cacheReading t h).resetAsserted = s.resetAsserted := rfl

/-! ### raiseIllegalCommand -/

@[simp] theorem State.raiseIllegalCommand_id (s : State) : (s.raiseIllegalCommand).id = s.id := rfl
@[simp] theorem State.raiseIllegalCommand_cmd (s : State) : (s.raiseIllegalCommand).cmd = s.cmd := rfl
@[simp] theorem State.raiseIllegalCommand_status (s : State) : (s.raiseIllegalCommand).status = s.status.noteIllegal := rfl
@[simp] theorem State.raiseIllegalCommand_cfg (s : State) : (s.raiseIllegalCommand).cfg = s.cfg := rfl
@[simp] theorem State.raiseIllegalCommand_mbufT (s : State) : (s.raiseIllegalCommand).mbufT = s.mbufT := rfl
@[simp] theorem State.raiseIllegalCommand_mbufH (s : State) : (s.raiseIllegalCommand).mbufH = s.mbufH := rfl
@[simp] theorem State.raiseIllegalCommand_crcOut (s : State) : (s.raiseIllegalCommand).crcOut = s.crcOut := rfl
@[simp] theorem State.raiseIllegalCommand_opa (s : State) : (s.raiseIllegalCommand).opa = s.opa := rfl
@[simp] theorem State.raiseIllegalCommand_opb (s : State) : (s.raiseIllegalCommand).opb = s.opb := rfl
@[simp] theorem State.raiseIllegalCommand_res (s : State) : (s.raiseIllegalCommand).res = s.res := rfl
@[simp] theorem State.raiseIllegalCommand_temp (s : State) : (s.raiseIllegalCommand).temp = s.temp := rfl
@[simp] theorem State.raiseIllegalCommand_rh (s : State) : (s.raiseIllegalCommand).rh = s.rh := rfl
@[simp] theorem State.raiseIllegalCommand_caltF (s : State) : (s.raiseIllegalCommand).caltF = s.caltF := rfl
@[simp] theorem State.raiseIllegalCommand_caltS (s : State) : (s.raiseIllegalCommand).caltS = s.caltS := rfl
@[simp] theorem State.raiseIllegalCommand_calhF (s : State) : (s.raiseIllegalCommand).calhF = s.calhF := rfl
@[simp] theorem State.raiseIllegalCommand_calhS (s : State) : (s.raiseIllegalCommand).calhS = s.calhS := rfl
@[simp] theorem State.raiseIllegalCommand_poly0 (s : State) : (s.raiseIllegalCommand).poly0 = s.poly0 := rfl
@[simp] theorem State.raiseIllegalCommand_poly1 (s : State) : (s.raiseIllegalCommand).poly1 = s.poly1 := rfl
@[simp] theorem State.raiseIllegalCommand_poly2 (s : State) : (s.raiseIllegalCommand).poly2 = s.poly2 := rfl
@[simp] theorem State.raiseIllegalCommand_poly3 (s : State) : (s.raiseIllegalCommand).poly3 = s.poly3 := rfl
@[simp] theorem State.raiseIllegalCommand_poly4 (s : State) : (s.raiseIllegalCommand).poly4 = s.poly4 := rfl
@[simp] theorem State.raiseIllegalCommand_poly5 (s : State) : (s.raiseIllegalCommand).poly5 = s.poly5 := rfl
@[simp] theorem State.raiseIllegalCommand_host (s : State) : (s.raiseIllegalCommand).host = s.host := rfl
@[simp] theorem State.raiseIllegalCommand_answer (s : State) : (s.raiseIllegalCommand).answer = s.answer := rfl
@[simp] theorem State.raiseIllegalCommand_resetAsserted (s : State) : (s.raiseIllegalCommand).resetAsserted = s.resetAsserted := rfl

/-! ### giveAnswer -/

@[simp] theorem State.giveAnswer_id (s : State) (a : BusAnswer) : (s.giveAnswer a).id = s.id := rfl
@[simp] theorem State.giveAnswer_cmd (s : State) (a : BusAnswer) : (s.giveAnswer a).cmd = s.cmd := rfl
@[simp] theorem State.giveAnswer_status (s : State) (a : BusAnswer) : (s.giveAnswer a).status = s.status := rfl
@[simp] theorem State.giveAnswer_cfg (s : State) (a : BusAnswer) : (s.giveAnswer a).cfg = s.cfg := rfl
@[simp] theorem State.giveAnswer_mbufT (s : State) (a : BusAnswer) : (s.giveAnswer a).mbufT = s.mbufT := rfl
@[simp] theorem State.giveAnswer_mbufH (s : State) (a : BusAnswer) : (s.giveAnswer a).mbufH = s.mbufH := rfl
@[simp] theorem State.giveAnswer_crcOut (s : State) (a : BusAnswer) : (s.giveAnswer a).crcOut = s.crcOut := rfl
@[simp] theorem State.giveAnswer_opa (s : State) (a : BusAnswer) : (s.giveAnswer a).opa = s.opa := rfl
@[simp] theorem State.giveAnswer_opb (s : State) (a : BusAnswer) : (s.giveAnswer a).opb = s.opb := rfl
@[simp] theorem State.giveAnswer_res (s : State) (a : BusAnswer) : (s.giveAnswer a).res = s.res := rfl
@[simp] theorem State.giveAnswer_temp (s : State) (a : BusAnswer) : (s.giveAnswer a).temp = s.temp := rfl
@[simp] theorem State.giveAnswer_rh (s : State) (a : BusAnswer) : (s.giveAnswer a).rh = s.rh := rfl
@[simp] theorem State.giveAnswer_caltF (s : State) (a : BusAnswer) : (s.giveAnswer a).caltF = s.caltF := rfl
@[simp] theorem State.giveAnswer_caltS (s : State) (a : BusAnswer) : (s.giveAnswer a).caltS = s.caltS := rfl
@[simp] theorem State.giveAnswer_calhF (s : State) (a : BusAnswer) : (s.giveAnswer a).calhF = s.calhF := rfl
@[simp] theorem State.giveAnswer_calhS (s : State) (a : BusAnswer) : (s.giveAnswer a).calhS = s.calhS := rfl
@[simp] theorem State.giveAnswer_poly0 (s : State) (a : BusAnswer) : (s.giveAnswer a).poly0 = s.poly0 := rfl
@[simp] theorem State.giveAnswer_poly1 (s : State) (a : BusAnswer) : (s.giveAnswer a).poly1 = s.poly1 := rfl
@[simp] theorem State.giveAnswer_poly2 (s : State) (a : BusAnswer) : (s.giveAnswer a).poly2 = s.poly2 := rfl
@[simp] theorem State.giveAnswer_poly3 (s : State) (a : BusAnswer) : (s.giveAnswer a).poly3 = s.poly3 := rfl
@[simp] theorem State.giveAnswer_poly4 (s : State) (a : BusAnswer) : (s.giveAnswer a).poly4 = s.poly4 := rfl
@[simp] theorem State.giveAnswer_poly5 (s : State) (a : BusAnswer) : (s.giveAnswer a).poly5 = s.poly5 := rfl
@[simp] theorem State.giveAnswer_host (s : State) (a : BusAnswer) : (s.giveAnswer a).host = s.host := rfl
@[simp] theorem State.giveAnswer_answer (s : State) (a : BusAnswer) : (s.giveAnswer a).answer = some a := rfl
@[simp] theorem State.giveAnswer_resetAsserted (s : State) (a : BusAnswer) : (s.giveAnswer a).resetAsserted = s.resetAsserted := rfl

/-! ### giveNoAnswer -/

@[simp] theorem State.giveNoAnswer_id (s : State) : (s.giveNoAnswer).id = s.id := rfl
@[simp] theorem State.giveNoAnswer_cmd (s : State) : (s.giveNoAnswer).cmd = s.cmd := rfl
@[simp] theorem State.giveNoAnswer_status (s : State) : (s.giveNoAnswer).status = s.status := rfl
@[simp] theorem State.giveNoAnswer_cfg (s : State) : (s.giveNoAnswer).cfg = s.cfg := rfl
@[simp] theorem State.giveNoAnswer_mbufT (s : State) : (s.giveNoAnswer).mbufT = s.mbufT := rfl
@[simp] theorem State.giveNoAnswer_mbufH (s : State) : (s.giveNoAnswer).mbufH = s.mbufH := rfl
@[simp] theorem State.giveNoAnswer_crcOut (s : State) : (s.giveNoAnswer).crcOut = s.crcOut := rfl
@[simp] theorem State.giveNoAnswer_opa (s : State) : (s.giveNoAnswer).opa = s.opa := rfl
@[simp] theorem State.giveNoAnswer_opb (s : State) : (s.giveNoAnswer).opb = s.opb := rfl
@[simp] theorem State.giveNoAnswer_res (s : State) : (s.giveNoAnswer).res = s.res := rfl
@[simp] theorem State.giveNoAnswer_temp (s : State) : (s.giveNoAnswer).temp = s.temp := rfl
@[simp] theorem State.giveNoAnswer_rh (s : State) : (s.giveNoAnswer).rh = s.rh := rfl
@[simp] theorem State.giveNoAnswer_caltF (s : State) : (s.giveNoAnswer).caltF = s.caltF := rfl
@[simp] theorem State.giveNoAnswer_caltS (s : State) : (s.giveNoAnswer).caltS = s.caltS := rfl
@[simp] theorem State.giveNoAnswer_calhF (s : State) : (s.giveNoAnswer).calhF = s.calhF := rfl
@[simp] theorem State.giveNoAnswer_calhS (s : State) : (s.giveNoAnswer).calhS = s.calhS := rfl
@[simp] theorem State.giveNoAnswer_poly0 (s : State) : (s.giveNoAnswer).poly0 = s.poly0 := rfl
@[simp] theorem State.giveNoAnswer_poly1 (s : State) : (s.giveNoAnswer).poly1 = s.poly1 := rfl
@[simp] theorem State.giveNoAnswer_poly2 (s : State) : (s.giveNoAnswer).poly2 = s.poly2 := rfl
@[simp] theorem State.giveNoAnswer_poly3 (s : State) : (s.giveNoAnswer).poly3 = s.poly3 := rfl
@[simp] theorem State.giveNoAnswer_poly4 (s : State) : (s.giveNoAnswer).poly4 = s.poly4 := rfl
@[simp] theorem State.giveNoAnswer_poly5 (s : State) : (s.giveNoAnswer).poly5 = s.poly5 := rfl
@[simp] theorem State.giveNoAnswer_host (s : State) : (s.giveNoAnswer).host = s.host := rfl
@[simp] theorem State.giveNoAnswer_answer (s : State) : (s.giveNoAnswer).answer = none := rfl
@[simp] theorem State.giveNoAnswer_resetAsserted (s : State) : (s.giveNoAnswer).resetAsserted = s.resetAsserted := rfl

/-! ### releaseReset -/

@[simp] theorem State.releaseReset_id (s : State) : (s.releaseReset).id = s.id := rfl
@[simp] theorem State.releaseReset_cmd (s : State) : (s.releaseReset).cmd = s.cmd := rfl
@[simp] theorem State.releaseReset_status (s : State) : (s.releaseReset).status = s.status := rfl
@[simp] theorem State.releaseReset_cfg (s : State) : (s.releaseReset).cfg = s.cfg := rfl
@[simp] theorem State.releaseReset_mbufT (s : State) : (s.releaseReset).mbufT = s.mbufT := rfl
@[simp] theorem State.releaseReset_mbufH (s : State) : (s.releaseReset).mbufH = s.mbufH := rfl
@[simp] theorem State.releaseReset_crcOut (s : State) : (s.releaseReset).crcOut = s.crcOut := rfl
@[simp] theorem State.releaseReset_opa (s : State) : (s.releaseReset).opa = s.opa := rfl
@[simp] theorem State.releaseReset_opb (s : State) : (s.releaseReset).opb = s.opb := rfl
@[simp] theorem State.releaseReset_res (s : State) : (s.releaseReset).res = s.res := rfl
@[simp] theorem State.releaseReset_temp (s : State) : (s.releaseReset).temp = s.temp := rfl
@[simp] theorem State.releaseReset_rh (s : State) : (s.releaseReset).rh = s.rh := rfl
@[simp] theorem State.releaseReset_caltF (s : State) : (s.releaseReset).caltF = s.caltF := rfl
@[simp] theorem State.releaseReset_caltS (s : State) : (s.releaseReset).caltS = s.caltS := rfl
@[simp] theorem State.releaseReset_calhF (s : State) : (s.releaseReset).calhF = s.calhF := rfl
@[simp] theorem State.releaseReset_calhS (s : State) : (s.releaseReset).calhS = s.calhS := rfl
@[simp] theorem State.releaseReset_poly0 (s : State) : (s.releaseReset).poly0 = s.poly0 := rfl
@[simp] theorem State.releaseReset_poly1 (s : State) : (s.releaseReset).poly1 = s.poly1 := rfl
@[simp] theorem State.releaseReset_poly2 (s : State) : (s.releaseReset).poly2 = s.poly2 := rfl
@[simp] theorem State.releaseReset_poly3 (s : State) : (s.releaseReset).poly3 = s.poly3 := rfl
@[simp] theorem State.releaseReset_poly4 (s : State) : (s.releaseReset).poly4 = s.poly4 := rfl
@[simp] theorem State.releaseReset_poly5 (s : State) : (s.releaseReset).poly5 = s.poly5 := rfl
@[simp] theorem State.releaseReset_host (s : State) : (s.releaseReset).host = s.host := rfl
@[simp] theorem State.releaseReset_answer (s : State) : (s.releaseReset).answer = none := rfl
@[simp] theorem State.releaseReset_resetAsserted (s : State) : (s.releaseReset).resetAsserted = false := rfl

/-! ### raiseBusError -/

@[simp] theorem State.raiseBusError_id (s : State) (a : Access) : (s.raiseBusError a).id = s.id := by cases a <;> rfl
@[simp] theorem State.raiseBusError_cmd (s : State) (a : Access) : (s.raiseBusError a).cmd = s.cmd := by cases a <;> rfl
@[simp] theorem State.raiseBusError_status (s : State) (a : Access) : (s.raiseBusError a).status = s.status := by cases a <;> rfl
@[simp] theorem State.raiseBusError_cfg (s : State) (a : Access) : (s.raiseBusError a).cfg = s.cfg := by cases a <;> rfl
@[simp] theorem State.raiseBusError_mbufT (s : State) (a : Access) : (s.raiseBusError a).mbufT = s.mbufT := by cases a <;> rfl
@[simp] theorem State.raiseBusError_mbufH (s : State) (a : Access) : (s.raiseBusError a).mbufH = s.mbufH := by cases a <;> rfl
@[simp] theorem State.raiseBusError_crcOut (s : State) (a : Access) : (s.raiseBusError a).crcOut = s.crcOut := by cases a <;> rfl
@[simp] theorem State.raiseBusError_opa (s : State) (a : Access) : (s.raiseBusError a).opa = s.opa := by cases a <;> rfl
@[simp] theorem State.raiseBusError_opb (s : State) (a : Access) : (s.raiseBusError a).opb = s.opb := by cases a <;> rfl
@[simp] theorem State.raiseBusError_res (s : State) (a : Access) : (s.raiseBusError a).res = s.res := by cases a <;> rfl
@[simp] theorem State.raiseBusError_temp (s : State) (a : Access) : (s.raiseBusError a).temp = s.temp := by cases a <;> rfl
@[simp] theorem State.raiseBusError_rh (s : State) (a : Access) : (s.raiseBusError a).rh = s.rh := by cases a <;> rfl
@[simp] theorem State.raiseBusError_caltF (s : State) (a : Access) : (s.raiseBusError a).caltF = s.caltF := by cases a <;> rfl
@[simp] theorem State.raiseBusError_caltS (s : State) (a : Access) : (s.raiseBusError a).caltS = s.caltS := by cases a <;> rfl
@[simp] theorem State.raiseBusError_calhF (s : State) (a : Access) : (s.raiseBusError a).calhF = s.calhF := by cases a <;> rfl
@[simp] theorem State.raiseBusError_calhS (s : State) (a : Access) : (s.raiseBusError a).calhS = s.calhS := by cases a <;> rfl
@[simp] theorem State.raiseBusError_poly0 (s : State) (a : Access) : (s.raiseBusError a).poly0 = s.poly0 := by cases a <;> rfl
@[simp] theorem State.raiseBusError_poly1 (s : State) (a : Access) : (s.raiseBusError a).poly1 = s.poly1 := by cases a <;> rfl
@[simp] theorem State.raiseBusError_poly2 (s : State) (a : Access) : (s.raiseBusError a).poly2 = s.poly2 := by cases a <;> rfl
@[simp] theorem State.raiseBusError_poly3 (s : State) (a : Access) : (s.raiseBusError a).poly3 = s.poly3 := by cases a <;> rfl
@[simp] theorem State.raiseBusError_poly4 (s : State) (a : Access) : (s.raiseBusError a).poly4 = s.poly4 := by cases a <;> rfl
@[simp] theorem State.raiseBusError_poly5 (s : State) (a : Access) : (s.raiseBusError a).poly5 = s.poly5 := by cases a <;> rfl
@[simp] theorem State.raiseBusError_host (s : State) (a : Access) : (s.raiseBusError a).host = s.host := by cases a <;> rfl
@[simp] theorem State.raiseBusError_resetAsserted (s : State) (a : Access) : (s.raiseBusError a).resetAsserted = s.resetAsserted := by cases a <;> rfl

/-! ### assertReset -/

@[simp] theorem State.assertReset_id (s : State) : s.assertReset.id = State.reset.id := rfl
@[simp] theorem State.assertReset_cmd (s : State) : s.assertReset.cmd = State.reset.cmd := rfl
@[simp] theorem State.assertReset_status (s : State) : s.assertReset.status = State.reset.status := rfl
@[simp] theorem State.assertReset_cfg (s : State) : s.assertReset.cfg = State.reset.cfg := rfl
@[simp] theorem State.assertReset_mbufT (s : State) : s.assertReset.mbufT = State.reset.mbufT := rfl
@[simp] theorem State.assertReset_mbufH (s : State) : s.assertReset.mbufH = State.reset.mbufH := rfl
@[simp] theorem State.assertReset_crcOut (s : State) : s.assertReset.crcOut = State.reset.crcOut := rfl
@[simp] theorem State.assertReset_opa (s : State) : s.assertReset.opa = State.reset.opa := rfl
@[simp] theorem State.assertReset_opb (s : State) : s.assertReset.opb = State.reset.opb := rfl
@[simp] theorem State.assertReset_res (s : State) : s.assertReset.res = State.reset.res := rfl
@[simp] theorem State.assertReset_temp (s : State) : s.assertReset.temp = State.reset.temp := rfl
@[simp] theorem State.assertReset_rh (s : State) : s.assertReset.rh = State.reset.rh := rfl
@[simp] theorem State.assertReset_caltF (s : State) : s.assertReset.caltF = State.reset.caltF := rfl
@[simp] theorem State.assertReset_caltS (s : State) : s.assertReset.caltS = State.reset.caltS := rfl
@[simp] theorem State.assertReset_calhF (s : State) : s.assertReset.calhF = State.reset.calhF := rfl
@[simp] theorem State.assertReset_calhS (s : State) : s.assertReset.calhS = State.reset.calhS := rfl
@[simp] theorem State.assertReset_poly0 (s : State) : s.assertReset.poly0 = State.reset.poly0 := rfl
@[simp] theorem State.assertReset_poly1 (s : State) : s.assertReset.poly1 = State.reset.poly1 := rfl
@[simp] theorem State.assertReset_poly2 (s : State) : s.assertReset.poly2 = State.reset.poly2 := rfl
@[simp] theorem State.assertReset_poly3 (s : State) : s.assertReset.poly3 = State.reset.poly3 := rfl
@[simp] theorem State.assertReset_poly4 (s : State) : s.assertReset.poly4 = State.reset.poly4 := rfl
@[simp] theorem State.assertReset_poly5 (s : State) : s.assertReset.poly5 = State.reset.poly5 := rfl
@[simp] theorem State.assertReset_host (s : State) : s.assertReset.host = s.host := rfl
@[simp] theorem State.assertReset_answer (s : State) : s.assertReset.answer = State.reset.answer := rfl
@[simp] theorem State.assertReset_resetAsserted (s : State) : s.assertReset.resetAsserted = true := rfl

/-! ### STATUS -/

@[simp] theorem Status.noteOverflow_crcOk (st : Status) (b : Bool) : (st.noteOverflow b).crcOk = st.crcOk := rfl
@[simp] theorem Status.noteOverflow_tOk (st : Status) (b : Bool) : (st.noteOverflow b).tOk = st.tOk := rfl
@[simp] theorem Status.noteOverflow_hOk (st : Status) (b : Bool) : (st.noteOverflow b).hOk = st.hOk := rfl
@[simp] theorem Status.noteOverflow_upd (st : Status) (b : Bool) : (st.noteOverflow b).upd = st.upd := rfl
@[simp] theorem Status.noteOverflow_valid (st : Status) (b : Bool) : (st.noteOverflow b).valid = st.valid := rfl
@[simp] theorem Status.noteOverflow_ovf (st : Status) (b : Bool) : (st.noteOverflow b).ovf = (st.ovf || b) := rfl
@[simp] theorem Status.noteOverflow_err (st : Status) (b : Bool) : (st.noteOverflow b).err = st.err := rfl
@[simp] theorem Status.noteIllegal_crcOk (st : Status) : (st.noteIllegal).crcOk = st.crcOk := rfl
@[simp] theorem Status.noteIllegal_tOk (st : Status) : (st.noteIllegal).tOk = st.tOk := rfl
@[simp] theorem Status.noteIllegal_hOk (st : Status) : (st.noteIllegal).hOk = st.hOk := rfl
@[simp] theorem Status.noteIllegal_upd (st : Status) : (st.noteIllegal).upd = st.upd := rfl
@[simp] theorem Status.noteIllegal_valid (st : Status) : (st.noteIllegal).valid = st.valid := rfl
@[simp] theorem Status.noteIllegal_ovf (st : Status) : (st.noteIllegal).ovf = st.ovf := rfl
@[simp] theorem Status.noteIllegal_err (st : Status) : (st.noteIllegal).err = true := rfl
@[simp] theorem Status.noteCrc_crcOk (st : Status) (ok : Bool) : (st.noteCrc ok).crcOk = ok := rfl
@[simp] theorem Status.noteCrc_tOk (st : Status) (ok : Bool) : (st.noteCrc ok).tOk = st.tOk := rfl
@[simp] theorem Status.noteCrc_hOk (st : Status) (ok : Bool) : (st.noteCrc ok).hOk = st.hOk := rfl
@[simp] theorem Status.noteCrc_upd (st : Status) (ok : Bool) : (st.noteCrc ok).upd = st.upd := rfl
@[simp] theorem Status.noteCrc_valid (st : Status) (ok : Bool) : (st.noteCrc ok).valid = st.valid := rfl
@[simp] theorem Status.noteCrc_ovf (st : Status) (ok : Bool) : (st.noteCrc ok).ovf = st.ovf := rfl
@[simp] theorem Status.noteCrc_err (st : Status) (ok : Bool) : (st.noteCrc ok).err = st.err := rfl
@[simp] theorem Status.noteChecks_crcOk (st : Status) (tok hok : Bool) : (st.noteChecks tok hok).crcOk = st.crcOk := rfl
@[simp] theorem Status.noteChecks_tOk (st : Status) (tok hok : Bool) : (st.noteChecks tok hok).tOk = tok := rfl
@[simp] theorem Status.noteChecks_hOk (st : Status) (tok hok : Bool) : (st.noteChecks tok hok).hOk = hok := rfl
@[simp] theorem Status.noteChecks_upd (st : Status) (tok hok : Bool) : (st.noteChecks tok hok).upd = (tok && hok) := rfl
@[simp] theorem Status.noteChecks_valid (st : Status) (tok hok : Bool) : (st.noteChecks tok hok).valid = st.valid := rfl
@[simp] theorem Status.noteChecks_ovf (st : Status) (tok hok : Bool) : (st.noteChecks tok hok).ovf = st.ovf := rfl
@[simp] theorem Status.noteChecks_err (st : Status) (tok hok : Bool) : (st.noteChecks tok hok).err = st.err := rfl
@[simp] theorem Status.noteValid_crcOk (st : Status) : (st.noteValid).crcOk = st.crcOk := rfl
@[simp] theorem Status.noteValid_tOk (st : Status) : (st.noteValid).tOk = st.tOk := rfl
@[simp] theorem Status.noteValid_hOk (st : Status) : (st.noteValid).hOk = st.hOk := rfl
@[simp] theorem Status.noteValid_upd (st : Status) : (st.noteValid).upd = st.upd := rfl
@[simp] theorem Status.noteValid_valid (st : Status) : (st.noteValid).valid = true := rfl
@[simp] theorem Status.noteValid_ovf (st : Status) : (st.noteValid).ovf = st.ovf := rfl
@[simp] theorem Status.noteValid_err (st : Status) : (st.noteValid).err = st.err := rfl
@[simp] theorem Status.hostWrite_crcOk (st : Status) (v : Word) : (st.hostWrite v).crcOk = st.crcOk := rfl
@[simp] theorem Status.hostWrite_tOk (st : Status) (v : Word) : (st.hostWrite v).tOk = st.tOk := rfl
@[simp] theorem Status.hostWrite_hOk (st : Status) (v : Word) : (st.hostWrite v).hOk = st.hOk := rfl
@[simp] theorem Status.hostWrite_upd (st : Status) (v : Word) : (st.hostWrite v).upd = st.upd := rfl
@[simp] theorem Status.hostWrite_valid (st : Status) (v : Word) : (st.hostWrite v).valid = st.valid := rfl
@[simp] theorem Status.hostWrite_ovf (st : Status) (v : Word) : (st.hostWrite v).ovf = (st.ovf && !v.getLsbD 8) := rfl
@[simp] theorem Status.hostWrite_err (st : Status) (v : Word) : (st.hostWrite v).err = (st.err && !v.getLsbD 9) := rfl

/-- A result that no `sat64` produced leaves STATUS as it is. -/
@[simp] theorem Status.noteOverflow_false (st : Status) : st.noteOverflow false = st := by
  simp [Status.noteOverflow]

end Sys2Proof.Machine
end

