-- ==== Sys2Proof/Laws/Commands.lean ====
section
/-! SUPPORT. Laws/Commands.lean: what FRAME and a command can do, once each. -/

namespace Sys2Proof.Machine

/-- Both groups good: FRAME records both checks and caches both values (spec/44_frame.md R180). -/
theorem frameEffect_of_good (s : State) (ht : s.mbufT.good = true) (hh : s.mbufH.good = true) :
    frameEffect s = (s.recordChecks true true).cacheReading (frameTemperature s) (frameHumidity s) := by
  simp [frameEffect, ht, hh]

/-- A bad group: FRAME records the checks and does nothing else (spec/44_frame.md R182). -/
theorem frameEffect_of_bad (s : State) (h : s.mbufT.good = false ∨ s.mbufH.good = false) :
    frameEffect s = s.recordChecks s.mbufT.good s.mbufH.good := by
  rcases h with h | h <;> simp [frameEffect, h]

/-- The cached temperature after an accepted FRAME (spec/44_frame.md R180). -/
theorem frameEffect_temp_of_good (s : State) (ht : s.mbufT.good = true) (hh : s.mbufH.good = true) :
    (frameEffect s).temp = (frameTemperature s).value := by
  rw [frameEffect_of_good s ht hh, State.cacheReading_temp]

/-- The cached humidity after an accepted FRAME (spec/44_frame.md R180). -/
theorem frameEffect_rh_of_good (s : State) (ht : s.mbufT.good = true) (hh : s.mbufH.good = true) :
    (frameEffect s).rh = (frameHumidity s).value := by
  rw [frameEffect_of_good s ht hh, State.cacheReading_rh]

/-- STATUS after an accepted FRAME (spec/44_frame.md R180). -/
theorem frameEffect_status_of_good (s : State) (ht : s.mbufT.good = true) (hh : s.mbufH.good = true) :
    (frameEffect s).status =
      (s.status.noteChecks true true).noteValid.noteOverflow ((frameTemperature s).ovf || (frameHumidity s).ovf) := by
  rw [frameEffect_of_good s ht hh, State.cacheReading_status, State.recordChecks_status]

/-- What an accepted FRAME would cache does not depend on what an earlier FRAME cached or recorded. -/
theorem frameTemperature_cacheReading (s : State) (tok hok : Bool) (t h : SatFx) :
    frameTemperature ((s.recordChecks tok hok).cacheReading t h) = frameTemperature s := rfl

theorem frameHumidity_cacheReading (s : State) (tok hok : Bool) (t h : SatFx) :
    frameHumidity ((s.recordChecks tok hok).cacheReading t h) = frameHumidity s := rfl

/-- The registers FRAME leaves alone whatever the checks say (spec/44_frame.md R180, "Not written"), with the host's side and
the other registers no command writes. -/
theorem frameEffect_frame (s : State) :
    (frameEffect s).id = s.id ∧ (frameEffect s).cmd = s.cmd ∧ (frameEffect s).cfg = s.cfg ∧ (frameEffect s).mbufT = s.mbufT ∧
    (frameEffect s).mbufH = s.mbufH ∧ (frameEffect s).crcOut = s.crcOut ∧ (frameEffect s).opa = s.opa ∧
    (frameEffect s).opb = s.opb ∧ (frameEffect s).res = s.res ∧ (frameEffect s).caltF = s.caltF ∧
    (frameEffect s).caltS = s.caltS ∧ (frameEffect s).calhF = s.calhF ∧ (frameEffect s).calhS = s.calhS ∧
    (frameEffect s).poly0 = s.poly0 ∧ (frameEffect s).poly1 = s.poly1 ∧ (frameEffect s).poly2 = s.poly2 ∧
    (frameEffect s).poly3 = s.poly3 ∧ (frameEffect s).poly4 = s.poly4 ∧ (frameEffect s).poly5 = s.poly5 ∧
    (frameEffect s).host = s.host ∧ (frameEffect s).answer = s.answer ∧ (frameEffect s).resetAsserted = s.resetAsserted := by
  by_cases hg : s.mbufT.good = true ∧ s.mbufH.good = true
  · rw [frameEffect_of_good s hg.1 hg.2]
    generalize frameTemperature s = t
    generalize frameHumidity s = h
    simp
  · have hb : s.mbufT.good = false ∨ s.mbufH.good = false := by
      by_cases ht : s.mbufT.good = true
      · exact .inr (by simpa [ht] using hg)
      · exact .inl (by simpa using ht)
    rw [frameEffect_of_bad s hb]
    simp

/-- Every command answers a next state, and these are all the shapes it can have: NOP's, a checksum command's, FRAME's, or a
result written to RES. -/
theorem exec_cases (i : Instr) (s : State) :
    (i = .nop ∧ exec i s = .next s) ∨
    (∃ g, (i = .crcGenT ∨ i = .crcGenH) ∧ exec i s = .next (crcGen g s)) ∨
    (∃ g, (i = .crcChkT ∨ i = .crcChkH) ∧ exec i s = .next (crcChk g s)) ∨
    (i = .frame ∧ exec i s = .next (frameEffect s)) ∨
    (∃ r, i ≠ .frame ∧ exec i s = .next (s.writeResult r)) := by
  cases i
  case nop => exact .inl ⟨rfl, rfl⟩
  case crcGenT => exact .inr (.inl ⟨_, .inl rfl, rfl⟩)
  case crcGenH => exact .inr (.inl ⟨_, .inr rfl, rfl⟩)
  case crcChkT => exact .inr (.inr (.inl ⟨_, .inl rfl, rfl⟩))
  case crcChkH => exact .inr (.inr (.inl ⟨_, .inr rfl, rfl⟩))
  case frame => exact .inr (.inr (.inr (.inl ⟨rfl, rfl⟩)))
  all_goals exact .inr (.inr (.inr (.inr ⟨_, by simp, rfl⟩)))

end Sys2Proof.Machine
end

