-- ==== Sys2Proof/Laws/Bus.lean ====
section
/-! SUPPORT. Laws/Bus.lean: what a register access, a transaction, an event and a step can do, once each. -/

namespace Sys2Proof.Machine

@[simp] theorem onNext_next (s : State) (f : State → State) : onNext (.next s) f = .next (f s) := rfl

/-- A step with no event waiting does nothing (spec/00_scope.md R8). -/
theorem step_idle (s : State) (h : s.host = []) : step s = .next s := by simp [step, h]

/-- A step with an event serves it. -/
theorem step_event (s : State) (e : HostEvent) (rest : List HostEvent) (h : s.host = e :: rest) :
    step s = serveEvent e { s with host := rest } := by simp [step, h]

/-- With the reset input released, an access at an offset is `BusAccess` (spec/20_memory.md R65). -/
theorem step_facing_atOffset (s : State) (off : Offset) (a : Access) (rest : List HostEvent) :
    step (s.facing (atOffset off a) rest) = busAccess off a { s with host := rest, resetAsserted := false } := rfl

/-- A command write is a write of 4 bytes at the offset of CMD (spec/30_encoding.md R90). -/
theorem commandWrite_eq (w : Word) : commandWrite w = atOffset 0x004 (.write 4 w) := rfl

/-- An aligned 32-bit write is the register's write, answered OKAY (spec/20_memory.md R65). -/
theorem step_facing_write (s : State) (off : Offset) (v : Word) (rest : List HostEvent) (h : off.toNat % 4 = 0) :
    step (s.facing (atOffset off (.write 4 v)) rest) =
      onNext (regWrite off v { s with host := rest, resetAsserted := false }) fun t => t.giveAnswer (.write .okay) := by
  have ha : accessAllowed off (.write 4 v) = true := by simp [accessAllowed, Access.size, h]
  rw [step_facing_atOffset]
  simp [busAccess, ha]

/-- An aligned 32-bit write to any register but CMD applies the register's write rule and is answered OKAY. -/
theorem step_facing_register_write (s : State) (off : Offset) (v : Word) (rest : List HostEvent) (h : off.toNat % 4 = 0)
    (hc : busWord off ≠ .cmd) :
    step (s.facing (atOffset off (.write 4 v)) rest) =
      .next (({ s with host := rest, resetAsserted := false }.writeWord (busWord off) v).giveAnswer (.write .okay)) := by
  rw [step_facing_write s off v rest h]
  simp [regWrite, hc]

/-- A register write neither reads nor writes the model's own fields, so it may be done before or after they change. -/
theorem State.writeWord_host_resetAsserted (s : State) (b : BusWord) (v : Word) (rest : List HostEvent) (r : Bool) :
    { s with host := rest, resetAsserted := r }.writeWord b v = { s.writeWord b v with host := rest, resetAsserted := r } := by
  cases b with
  | lo x => cases x <;> rfl
  | hi x => cases x <;> rfl
  | _ => rfl

/-- While reset is asserted a transaction is not accepted (spec/70_reset_and_hazards.md R260). -/
theorem serveTransaction_in_reset (t : Transaction) (s : State) (h : s.resetAsserted = true) :
    serveTransaction t s = .next s.giveNoAnswer := by simp [serveTransaction, h]

/-- All `BusAccess` can do: a bus error, a read, or a write. -/
theorem busAccess_cases (off : Offset) (a : Access) (s : State) :
    (accessAllowed off a = false ∧ busAccess off a s = .next (s.raiseBusError a)) ∨
    (a = .read 4 ∧ off.toNat % 4 = 0 ∧ busAccess off a s = .next (s.giveAnswer (.read (s.readWord (busWord off)) .okay))) ∨
    (∃ v, a = .write 4 v ∧ off.toNat % 4 = 0 ∧
      busAccess off a s = onNext (regWrite off v s) fun t => t.giveAnswer (.write .okay)) := by
  by_cases h : accessAllowed off a = true
  · have hw : a.size = 4 ∧ off.toNat % 4 = 0 := by simpa [accessAllowed] using h
    obtain ⟨h1, h2⟩ := hw
    cases a with
    | read n =>
      have h1 : n = 4 := h1
      subst h1
      exact .inr (.inl ⟨rfl, h2, by simp [busAccess, h]⟩)
    | write n v =>
      have h1 : n = 4 := h1
      subst h1
      exact .inr (.inr ⟨v, rfl, h2, by simp [busAccess, h]⟩)
  · have h' : accessAllowed off a = false := by simpa using h
    exact .inl ⟨h', by simp [busAccess, h']⟩

/-- All a register write can do: an illegal word, a command, or the register's write rule. -/
theorem regWrite_cases (off : Offset) (v : Word) (s : State) :
    (busWord off = .cmd ∧ (∃ e, decode v = .error e) ∧ regWrite off v s = .next ({ s with cmd := v }.raiseIllegalCommand)) ∨
    (busWord off = .cmd ∧ ∃ i, decode v = .ok i ∧ regWrite off v s = exec i { s with cmd := v }) ∨
    (busWord off ≠ .cmd ∧ regWrite off v s = .next (s.writeWord (busWord off) v)) := by
  by_cases h : busWord off = .cmd
  · cases hd : decode v with
    | error e => exact .inl ⟨h, ⟨e, rfl⟩, by simp [regWrite, h, runCommand, hd, State.writeWord]⟩
    | ok i => exact .inr (.inl ⟨h, i, rfl, by simp [regWrite, h, runCommand, hd, State.writeWord]⟩)
  · exact .inr (.inr ⟨h, by simp [regWrite, h]⟩)

/-- All a step can do: nothing, assert reset, release it, or serve a transaction at an offset, or take one that reaches
nothing. -/
theorem step_cases (s : State) :
    (s.host = [] ∧ step s = .next s) ∨
    ∃ e rest, s.host = e :: rest ∧
      ((e.assertsReset ∧ step s = .next { s with host := rest }.assertReset) ∨
       (e = .releaseReset ∧ step s = .next { s with host := rest }.releaseReset) ∨
       (∃ t, e = .transaction t ∧ (s.resetAsserted = true ∨ t.place.toOffset = none) ∧
          step s = .next { s with host := rest }.giveNoAnswer) ∨
       (∃ t off, e = .transaction t ∧ s.resetAsserted = false ∧ t.place.toOffset = some off ∧
          step s = busAccess off t.access { s with host := rest })) := by
  cases h : s.host with
  | nil => exact .inl ⟨rfl, step_idle s h⟩
  | cons e rest =>
    refine .inr ⟨e, rest, rfl, ?_⟩
    rw [step_event s e rest h]
    cases e with
    | assertReset p => exact .inl ⟨⟨p, rfl⟩, rfl⟩
    | releaseReset => exact .inr (.inl ⟨rfl, rfl⟩)
    | transaction t =>
      right; right
      cases hr : s.resetAsserted with
      | true => exact .inl ⟨t, rfl, .inl rfl, by simp [serveEvent, serveTransaction]⟩
      | false =>
        cases ho : t.place.toOffset with
        | none => exact .inl ⟨t, rfl, .inr ho, by simp [serveEvent, serveTransaction, ho]⟩
        | some off => exact .inr ⟨t, off, rfl, rfl, ho, by simp [serveEvent, serveTransaction, ho]⟩

/-- Every command answers a next state. -/
theorem exec_answers (i : Instr) (s : State) : ∃ t, exec i s = .next t := by
  rcases exec_cases i s with ⟨_, h⟩ | ⟨_, _, h⟩ | ⟨_, _, h⟩ | ⟨_, h⟩ | ⟨_, _, h⟩ <;> exact ⟨_, h⟩

/-- All the next states a step can have, by what the event was: none, an asserted reset, one that changes the model's own
fields only, a register write, an illegal word, or a command. -/
theorem step_next_cases (s t : State) (h : step s = .next t) :
    (s.host = [] ∧ t = s) ∨
    ∃ e rest, s.host = e :: rest ∧
      ((e.assertsReset ∧ t = { s with host := rest }.assertReset) ∨
       (∃ a b, t = { s with host := rest, answer := a, resetAsserted := b } ∧ (b = false ∨ b = s.resetAsserted)) ∨
       (∃ v off, s.acceptsWrite e (busWord off) v ∧ busWord off ≠ .cmd ∧
          t = ({ s with host := rest }.writeWord (busWord off) v).giveAnswer (.write .okay)) ∨
       (∃ v, s.acceptsWrite e .cmd v ∧ (∃ r, decode v = .error r) ∧
          t = { s with host := rest, cmd := v }.raiseIllegalCommand.giveAnswer (.write .okay)) ∨
       (∃ v i u, s.acceptsWrite e .cmd v ∧ decode v = .ok i ∧ exec i { s with host := rest, cmd := v } = .next u ∧
          t = u.giveAnswer (.write .okay))) := by
  rcases step_cases s with ⟨h0, h'⟩ | ⟨e, rest, he, h' | h' | h' | ⟨tr, off, hte, hr, ho, h'⟩⟩
  · rw [h'] at h
    cases h
    exact .inl ⟨h0, rfl⟩
  · rw [h'.2] at h
    cases h
    exact .inr ⟨e, rest, he, .inl ⟨h'.1, rfl⟩⟩
  · rw [h'.2] at h
    cases h
    exact .inr ⟨e, rest, he, .inr (.inl ⟨_, _, rfl, .inl rfl⟩)⟩
  · obtain ⟨tr, _, _, h'⟩ := h'
    rw [h'] at h
    cases h
    exact .inr ⟨e, rest, he, .inr (.inl ⟨_, _, rfl, .inr rfl⟩)⟩
  · refine .inr ⟨e, rest, he, .inr ?_⟩
    rw [h'] at h
    rcases busAccess_cases off tr.access { s with host := rest } with ⟨_, h2⟩ | ⟨_, _, h2⟩ | ⟨v, ha, hal, h2⟩
    · rw [h2] at h
      cases h
      left
      cases tr.access <;> exact ⟨_, _, rfl, .inr rfl⟩
    · rw [h2] at h
      cases h
      exact .inl ⟨_, _, rfl, .inr rfl⟩
    · rw [h2] at h
      have acc : s.acceptsWrite e (busWord off) v := ⟨hr, tr.place, off, by rw [hte, ← ha], ho, hal, rfl⟩
      rcases regWrite_cases off v { s with host := rest } with ⟨hc, hd, h3⟩ | ⟨hc, i, hd, h3⟩ | ⟨hc, h3⟩
      · rw [h3] at h
        cases h
        rw [hc] at acc
        exact .inr (.inr (.inl ⟨v, acc, hd, rfl⟩))
      · rw [h3] at h
        rw [hc] at acc
        obtain ⟨u, hu⟩ := exec_answers i { s with host := rest, cmd := v }
        rw [hu] at h
        cases h
        exact .inr (.inr (.inr ⟨v, i, u, acc, hd, hu, rfl⟩))
      · rw [h3] at h
        cases h
        exact .inr (.inl ⟨v, off, acc, hc, rfl⟩)

/-- The halves of a 64-bit register make it up (spec/20_memory.md R68). -/
theorem hiHalf_append_loHalf (v : Fx) : hiHalf v ++ loHalf v = v := by
  apply BitVec.eq_of_getLsbD_eq
  intro i hi
  simp only [hiHalf, loHalf, BitVec.getLsbD_append, BitVec.getLsbD_extractLsb']
  by_cases h : i < 32
  · simp [h]
  · have e : 32 + (i - 32) = i := by omega
    have l : i - 32 < 32 := by omega
    simp [h, e, l]

@[simp] theorem loHalf_append (a b : Word) : loHalf (a ++ b) = b := by
  apply BitVec.eq_of_getLsbD_eq
  intro i hi
  simp only [loHalf, BitVec.getLsbD_extractLsb', BitVec.getLsbD_append]
  simp [hi]

@[simp] theorem hiHalf_append (a b : Word) : hiHalf (a ++ b) = a := by
  apply BitVec.eq_of_getLsbD_eq
  intro i hi
  simp only [hiHalf, BitVec.getLsbD_extractLsb', BitVec.getLsbD_append]
  simp [hi]

@[simp] theorem loHalf_withLo (v : Fx) (w : Word) : loHalf (withLo v w) = w := loHalf_append _ _

@[simp] theorem hiHalf_withLo (v : Fx) (w : Word) : hiHalf (withLo v w) = hiHalf v := hiHalf_append _ _

@[simp] theorem loHalf_withHi (v : Fx) (w : Word) : loHalf (withHi v w) = loHalf v := loHalf_append _ _

@[simp] theorem hiHalf_withHi (v : Fx) (w : Word) : hiHalf (withHi v w) = w := hiHalf_append _ _

/-- The two views of the register map agree: a word read off the map at its own offset is itself (spec/20_memory.md R61). -/
@[simp] theorem busWord_offset (b : BusWord) : busWord b.offset = b := by
  cases b with
  | lo r => cases r <;> rfl
  | hi r => cases r <;> rfl
  | _ => rfl

end Sys2Proof.Machine
end

