-- ==== Sys2Proof/Laws/Decode.lean ====
section
/-! SUPPORT. Laws/Decode.lean: the fields of an assembled word, and the word of its fields. -/

namespace Sys2Proof

@[simp] theorem opcField_assemble (opc : BitVec 8) (sel : BitVec 4) (src : BitVec 1) : opcField (assemble opc sel src) = opc := by
  ext i hi
  simp only [opcField, assemble, BitVec.getElem_extractLsb', BitVec.getLsbD_append]
  simp [hi]

@[simp] theorem selField_assemble (opc : BitVec 8) (sel : BitVec 4) (src : BitVec 1) : selField (assemble opc sel src) = sel := by
  ext i hi
  simp only [selField, assemble, BitVec.getElem_extractLsb', BitVec.getLsbD_append]
  simp [hi]

@[simp] theorem srcField_assemble (opc : BitVec 8) (sel : BitVec 4) (src : BitVec 1) : srcField (assemble opc sel src) = src := by
  apply BitVec.eq_of_getLsbD_eq
  intro i hi
  have : i = 0 := by omega
  subst this
  simp only [srcField, assemble, BitVec.getLsbD_extractLsb', BitVec.getLsbD_append]
  simp

@[simp] theorem rsvField_assemble (opc : BitVec 8) (sel : BitVec 4) (src : BitVec 1) : rsvField (assemble opc sel src) = 0#19 := by
  ext i hi
  simp only [rsvField, assemble, BitVec.getElem_extractLsb', BitVec.getLsbD_append]
  have h1 : ¬ (13 + i < 8) := by omega
  have h2 : ¬ (13 + i - 8 < 4) := by omega
  have h3 : ¬ (13 + i - 8 - 4 < 1) := by omega
  simp [h1, h2, h3]

/-- A word with RSV = 0 is the word of its fields (spec/30_encoding.md R90). -/
theorem assemble_fields (w : Word) (h : rsvField w = 0#19) : assemble (opcField w) (selField w) (srcField w) = w := by
  have hb : ∀ i, 13 ≤ i → w.getLsbD i = false := by
    intro i hi
    by_cases hlt : i < 32
    · have := congrArg (fun x => x.getLsbD (i - 13)) h
      simp only [rsvField, BitVec.getLsbD_extractLsb', BitVec.getLsbD_zero] at this
      have e : 13 + (i - 13) = i := by omega
      have l : i - 13 < 19 := by omega
      simpa [e, l] using this
    · exact BitVec.getLsbD_of_ge w i (by omega)
  apply BitVec.eq_of_getLsbD_eq
  intro i hi
  simp only [assemble, opcField, selField, srcField, BitVec.getLsbD_append, BitVec.getLsbD_extractLsb', BitVec.getLsbD_zero]
  by_cases h8 : i < 8
  · simp [h8]
  · by_cases h12 : i - 8 < 4
    · have e : 8 + (i - 8) = i := by omega
      simp [h8, h12, e]
    · by_cases h13 : i - 8 - 4 < 1
      · have e : i = 12 := by omega
        subst e
        simp
      · have := hb i (by omega)
        simp [h8, h12, h13, this]

@[simp] theorem srcOfBit_bit (src : Src) : srcOfBit src.bit = src := by cases src <;> rfl

@[simp] theorem bit_srcOfBit (b : BitVec 1) : (srcOfBit b).bit = b := by
  revert b
  decide

/-- An assembled word is decoded by its opcode (spec/30_encoding.md R97). -/
theorem decode_assemble (opc : BitVec 8) (sel : BitVec 4) (src : BitVec 1) :
    decode (assemble opc sel src) = decodeOpcode opc sel src := by
  simp [decode]

/-- What a legal word is: RSV = 0, and its opcode decodes with its selector and source. -/
theorem decode_ok (w : Word) (i : Instr) (h : decode w = .ok i) :
    rsvField w = 0#19 ∧ decodeOpcode (opcField w) (selField w) (srcField w) = .ok i := by
  unfold decode at h
  split at h
  · cases h
  · rename_i hr
    exact ⟨by simpa using hr, h⟩

end Sys2Proof
end

