-- ==== Sys2Proof/Laws/PerInstr.lean ====
section
/-! SUPPORT. Laws/PerInstr.lean: statements for all commands, one lemma per constructor. -/

namespace Sys2Proof.Laws

/-- A command's encoding has RSV = 0 and its own operand source in SRC (spec/30_encoding.md R90, R93, R94). -/
def EncodingFields.Statement (i : Instr) : Prop := rsvField (encode i) = 0#19 ∧ srcField (encode i) = i.src.bit

theorem EncodingFields.nop : EncodingFields.Statement .nop := by simp [EncodingFields.Statement, encode, Instr.src, Src.bit]
theorem EncodingFields.crcGenT : EncodingFields.Statement .crcGenT := by simp [EncodingFields.Statement, encode, Instr.src, Src.bit]
theorem EncodingFields.crcGenH : EncodingFields.Statement .crcGenH := by simp [EncodingFields.Statement, encode, Instr.src, Src.bit]
theorem EncodingFields.crcChkT : EncodingFields.Statement .crcChkT := by simp [EncodingFields.Statement, encode, Instr.src, Src.bit]
theorem EncodingFields.crcChkH : EncodingFields.Statement .crcChkH := by simp [EncodingFields.Statement, encode, Instr.src, Src.bit]
theorem EncodingFields.convT : EncodingFields.Statement .convT := by simp [EncodingFields.Statement, encode, Instr.src, Src.bit]
theorem EncodingFields.convH : EncodingFields.Statement .convH := by simp [EncodingFields.Statement, encode, Instr.src, Src.bit]
theorem EncodingFields.calT : EncodingFields.Statement .calT := by simp [EncodingFields.Statement, encode, Instr.src, Src.bit]
theorem EncodingFields.calH : EncodingFields.Statement .calH := by simp [EncodingFields.Statement, encode, Instr.src, Src.bit]
theorem EncodingFields.frame : EncodingFields.Statement .frame := by simp [EncodingFields.Statement, encode, Instr.src, Src.bit]
theorem EncodingFields.getTC (src : Src) : EncodingFields.Statement (.getTC src) := by simp [EncodingFields.Statement, encode, Instr.src]
theorem EncodingFields.getTF (src : Src) : EncodingFields.Statement (.getTF src) := by simp [EncodingFields.Statement, encode, Instr.src]
theorem EncodingFields.getTK (src : Src) : EncodingFields.Statement (.getTK src) := by simp [EncodingFields.Statement, encode, Instr.src]
theorem EncodingFields.ahMmhg (src : Src) : EncodingFields.Statement (.ahMmhg src) := by simp [EncodingFields.Statement, encode, Instr.src]
theorem EncodingFields.ahTorr (src : Src) : EncodingFields.Statement (.ahTorr src) := by simp [EncodingFields.Statement, encode, Instr.src]
theorem EncodingFields.ahPa (src : Src) : EncodingFields.Statement (.ahPa src) := by simp [EncodingFields.Statement, encode, Instr.src]
theorem EncodingFields.ahBar (src : Src) : EncodingFields.Statement (.ahBar src) := by simp [EncodingFields.Statement, encode, Instr.src]
theorem EncodingFields.ahAt (src : Src) : EncodingFields.Statement (.ahAt src) := by simp [EncodingFields.Statement, encode, Instr.src]
theorem EncodingFields.ahAtm (src : Src) : EncodingFields.Statement (.ahAtm src) := by simp [EncodingFields.Statement, encode, Instr.src]
theorem EncodingFields.ahMh2o (src : Src) : EncodingFields.Statement (.ahMh2o src) := by simp [EncodingFields.Statement, encode, Instr.src]
theorem EncodingFields.ahPsi (src : Src) : EncodingFields.Statement (.ahPsi src) := by simp [EncodingFields.Statement, encode, Instr.src]
theorem EncodingFields.ahSel (sel : BitVec 4) (src : Src) : EncodingFields.Statement (.ahSel sel src) := by simp [EncodingFields.Statement, encode, Instr.src]
theorem EncodingFields.tolTC (src : Src) : EncodingFields.Statement (.tolTC src) := by simp [EncodingFields.Statement, encode, Instr.src]
theorem EncodingFields.tolTF (src : Src) : EncodingFields.Statement (.tolTF src) := by simp [EncodingFields.Statement, encode, Instr.src]
theorem EncodingFields.tolTK (src : Src) : EncodingFields.Statement (.tolTK src) := by simp [EncodingFields.Statement, encode, Instr.src]
theorem EncodingFields.tolH (src : Src) : EncodingFields.Statement (.tolH src) := by simp [EncodingFields.Statement, encode, Instr.src]

end Sys2Proof.Laws
end

