-- ==== Sys2Proof/Laws/Tolerance.lean ====
section
/-! SUPPORT. Laws/Tolerance.lean: the sizes of the table's slopes and intercepts (spec/46_tolerance.md R203, R206). -/

namespace Sys2Proof.Machine

/-- Every row of the temperature table has a slope of at most 0.01 and an intercept below 0.58. -/
theorem segT_bounds (v : Variant) (t : Fx) :
    (fxInt (segT v t).slope).natAbs ≤ 42949673 ∧ (fxInt (segT v t).intercept).natAbs ≤ 2454144313 := by
  cases v <;> simp only [segT] <;> split_ifs <;> decide

/-- Every row of the humidity table has a slope of at most 0.2 and an intercept of at most 16. -/
theorem segH_bounds (v : Variant) (h : Fx) :
    (fxInt (segH v h).slope).natAbs ≤ 858993459 ∧ (fxInt (segH v h).intercept).natAbs ≤ 68719476736 := by
  cases v
  case variant30 =>
    simp only [segH]
    split_ifs <;> decide
  case variant31 =>
    simp only [segH]
    decide
  case variant35 =>
    by_cases hc : fxInt h ≤ breakpoint 80
    · simp only [segH, hc, if_true]
      exact ⟨by decide, by decide⟩
    · simp only [segH, hc, if_false]
      exact ⟨by decide, by decide⟩

end Sys2Proof.Machine
end

