-- ==== Sys2Proof/Tests/Slice0.lean ====
section
/-! SUPPORT. Tests/Slice0.lean: the model's own tests. Every expected value is from spec/: the match column of
30_encoding.md R96 for words, and the vector table of 95_test_vectors.md (L1, L2) that a test's docstring names. Then the
witnesses: one concrete case for each hypothesis of the statements in Certificates/Slice0/Obligations.lean. -/

namespace Sys2Proof.Tests

open Sys2Proof Sys2Proof.Machine

-- One kernel evaluation at a time: with all of them waiting at once, a compile of the whole package as one text runs out of threads.
set_option Elab.async false

/-! ### WellFormed -/

/-- SEL 7 of AH is AH.PSI (R96), so it is no operand of AH.SELn. -/
theorem test_wf_refuses_ahSel_seven : (Instr.ahSel 7 .cached).wf = false := rfl

theorem test_wf_refuses_ahSel_zero : (Instr.ahSel 0 .operand).wf = false := rfl

theorem test_wf_accepts_ahSel_eight_and_fifteen : (Instr.ahSel 8 .cached).wf = true ∧ (Instr.ahSel 15 .operand).wf = true :=
  ⟨rfl, rfl⟩

/-! ### Decoding: the words of R96 (bit 12 is SRC) -/
theorem test_decode_nop : decode 0x00000000 = .ok .nop ∧ encode .nop = 0x00000000 := ⟨rfl, rfl⟩
theorem test_decode_crcGenT : decode 0x00000001 = .ok .crcGenT ∧ encode .crcGenT = 0x00000001 := ⟨rfl, rfl⟩
theorem test_decode_crcGenH : decode 0x00000101 = .ok .crcGenH ∧ encode .crcGenH = 0x00000101 := ⟨rfl, rfl⟩
theorem test_decode_crcChkT : decode 0x00000002 = .ok .crcChkT ∧ encode .crcChkT = 0x00000002 := ⟨rfl, rfl⟩
theorem test_decode_crcChkH : decode 0x00000102 = .ok .crcChkH ∧ encode .crcChkH = 0x00000102 := ⟨rfl, rfl⟩
theorem test_decode_convT : decode 0x00000003 = .ok .convT ∧ encode .convT = 0x00000003 := ⟨rfl, rfl⟩
theorem test_decode_convH : decode 0x00000004 = .ok .convH ∧ encode .convH = 0x00000004 := ⟨rfl, rfl⟩
theorem test_decode_calT : decode 0x00000005 = .ok .calT ∧ encode .calT = 0x00000005 := ⟨rfl, rfl⟩
theorem test_decode_calH : decode 0x00000006 = .ok .calH ∧ encode .calH = 0x00000006 := ⟨rfl, rfl⟩
theorem test_decode_frame : decode 0x00000007 = .ok .frame ∧ encode .frame = 0x00000007 := ⟨rfl, rfl⟩
theorem test_decode_getTC : decode 0x00000008 = .ok (.getTC .cached) ∧ decode 0x00001008 = .ok (.getTC .operand) := ⟨rfl, rfl⟩
theorem test_decode_getTF : decode 0x00000108 = .ok (.getTF .cached) ∧ decode 0x00001108 = .ok (.getTF .operand) := ⟨rfl, rfl⟩
theorem test_decode_getTK : decode 0x00000208 = .ok (.getTK .cached) ∧ decode 0x00001208 = .ok (.getTK .operand) := ⟨rfl, rfl⟩
theorem test_decode_ahMmhg : decode 0x00000009 = .ok (.ahMmhg .cached) ∧ decode 0x00001009 = .ok (.ahMmhg .operand) := ⟨rfl, rfl⟩
theorem test_decode_ahTorr : decode 0x00000109 = .ok (.ahTorr .cached) ∧ decode 0x00001109 = .ok (.ahTorr .operand) := ⟨rfl, rfl⟩
theorem test_decode_ahPa : decode 0x00000209 = .ok (.ahPa .cached) ∧ decode 0x00001209 = .ok (.ahPa .operand) := ⟨rfl, rfl⟩
theorem test_decode_ahBar : decode 0x00000309 = .ok (.ahBar .cached) ∧ decode 0x00001309 = .ok (.ahBar .operand) := ⟨rfl, rfl⟩
theorem test_decode_ahAt : decode 0x00000409 = .ok (.ahAt .cached) ∧ decode 0x00001409 = .ok (.ahAt .operand) := ⟨rfl, rfl⟩
theorem test_decode_ahAtm : decode 0x00000509 = .ok (.ahAtm .cached) ∧ decode 0x00001509 = .ok (.ahAtm .operand) := ⟨rfl, rfl⟩
theorem test_decode_ahMh2o : decode 0x00000609 = .ok (.ahMh2o .cached) ∧ decode 0x00001609 = .ok (.ahMh2o .operand) := ⟨rfl, rfl⟩
theorem test_decode_ahPsi : decode 0x00000709 = .ok (.ahPsi .cached) ∧ decode 0x00001709 = .ok (.ahPsi .operand) := ⟨rfl, rfl⟩
theorem test_decode_tolTC : decode 0x0000000A = .ok (.tolTC .cached) ∧ decode 0x0000100A = .ok (.tolTC .operand) := ⟨rfl, rfl⟩
theorem test_decode_tolTF : decode 0x0000010A = .ok (.tolTF .cached) ∧ decode 0x0000110A = .ok (.tolTF .operand) := ⟨rfl, rfl⟩
theorem test_decode_tolTK : decode 0x0000020A = .ok (.tolTK .cached) ∧ decode 0x0000120A = .ok (.tolTK .operand) := ⟨rfl, rfl⟩
theorem test_decode_tolH : decode 0x0000000B = .ok (.tolH .cached) ∧ decode 0x0000100B = .ok (.tolH .operand) := ⟨rfl, rfl⟩

theorem test_decode_ahSel : decode 0x00000809 = .ok (.ahSel 8 .cached) ∧ decode 0x00000F09 = .ok (.ahSel 15 .cached) ∧
    decode 0x00001A09 = .ok (.ahSel 10 .operand) := ⟨rfl, rfl, rfl⟩

/-- L2.10, the illegal words, and one of each reason of R98. -/
theorem test_decode_illegal : decode 0x0000000C = .error .unassignedOpcode ∧ decode 0x000000FF = .error .unassignedOpcode ∧
    decode 0x00002000 = .error .reservedBits ∧ decode 0x80000007 = .error .reservedBits ∧
    decode 0xFFFFFFFF = .error .reservedBits ∧ decode 0x00001003 = .error .illegalSource ∧
    decode 0x00001007 = .error .illegalSource ∧ decode 0x00000100 = .error .illegalSelector ∧
    decode 0x00000201 = .error .illegalSelector ∧ decode 0x00000308 = .error .illegalSelector ∧
    decode 0x00000F0A = .error .illegalSelector ∧ decode 0x0000010B = .error .illegalSelector :=
  ⟨rfl, rfl, rfl, rfl, rfl, rfl, rfl, rfl, rfl, rfl, rfl, rfl⟩

/-- The word in byte lanes, lane 0 first (20_memory.md R66). -/
theorem test_decodeBytes_lanes : decodeBytes [0x08, 0x12, 0x00, 0x00, 0xFF] = .ok (.getTK .operand, [0xFF]) := rfl

theorem test_decodeBytes_truncated : decodeBytes [0x08, 0x12, 0x00] = .error .truncated := rfl

theorem test_decodeTableWord : decodeTableWord 32 0x00001209 = some (.ahPa .operand) ∧ decodeTableWord 32 0x0000000C = none :=
  ⟨rfl, rfl⟩

/-- R100: the text of a command. -/
theorem test_text : (Instr.getTK .operand).text = "GET_T.K OP" ∧ (Instr.ahSel 12 .cached).text = "AH.SEL12" := by decide

/-! ### Helpers -/

/-- RES after a command. -/
def resAfter (i : Instr) (s : State) : Option Fx :=
  match exec i s with
  | .next t => some t.res
  | .fault _ => none
  | .refused _ => none

/-- A word of the window after a command. -/
def wordAfter (i : Instr) (s : State) (b : BusWord) : Option Word :=
  match exec i s with
  | .next t => some (t.readWord b)
  | .fault _ => none
  | .refused _ => none

/-- A word of the window after one event. -/
def wordAfterEvent (e : HostEvent) (s : State) (b : BusWord) : Option Word :=
  match step (s.facing e []) with
  | .next t => some (t.readWord b)
  | .fault _ => none
  | .refused _ => none

/-- What the host is answered. -/
def answerTo (e : HostEvent) (s : State) : Option BusAnswer :=
  match step (s.facing e []) with
  | .next t => t.answer
  | .fault _ => none
  | .refused _ => none

/-- The sample frame of 95_test_vectors.md in the buffers, nothing cached yet. -/
def buffered : State := { State.reset with mbufT := ⟨0x64, 0x2B, 0x3B⟩, mbufH := ⟨0x5E, 0x5D, 0x39⟩ }

/-- The sample frame cached, with the coefficient set POLY_C of 95_test_vectors.md. -/
def sample : State :=
  { buffered with
    temp := 0x0000001779AB6E3C, rh := 0x00000024DC758B0F, poly0 := 0x0000000180000000, poly1 := 0xFFFFFFFDC0000000,
    poly2 := 0x0000000080000000, poly3 := 0x0000000020000000, poly4 := 0, poly5 := 0x0000000010000000 }

/-- The coefficient set POLY_B, with OPA = 0.0 and OPB = 100.0. -/
def polyB : State :=
  { State.reset with
    opb := 0x0000006400000000, poly0 := 0, poly1 := 0x0000000100000000, poly2 := 0, poly3 := 0, poly4 := 0, poly5 := 0 }

/-- A variant selected, with the same value in both operand registers. -/
def asked (v : Variant) (x : Fx) : State := { State.reset with cfg := ⟨v, false⟩, opa := x, opb := x }

/-! ### Arithmetic (L2.1) -/

theorem test_mac_ties : mac 1 0x0000000080000000 0 = ⟨1, false⟩ ∧ mac 0xFFFFFFFFFFFFFFFF 0x0000000080000000 0 = ⟨0, false⟩ := by
  decide +kernel

theorem test_div1000 : div1000 500 = 1 ∧ div1000 499 = 0 ∧ div1000 (-500) = 0 ∧ div1000 (-501) = -1 ∧
    div1000 0x7FFFFFFFFFFFFFFF = 0x0020C49BA5E353F8 ∧ div1000 0x0000011126666666 = 0x0000000045ED288D := by decide +kernel

/-! ### Commands -/

/-- L2.10. -/
theorem test_nop : wordAfterEvent (commandWrite 0) { State.reset with cmd := 5 } .cmd = some 0 := by decide +kernel

/-- L2.2. -/
theorem test_crcGenT : wordAfter .crcGenT { State.reset with mbufT := ⟨0xBE, 0xEF, 0x00⟩ } .crcOut = some 0x92 := by decide +kernel

/-- L2.2. -/
theorem test_crcGenH : wordAfter .crcGenH { State.reset with mbufH := ⟨0x12, 0x34, 0xFF⟩ } .crcOut = some 0x37 := by decide +kernel

/-- L2.2: the check is overwritten. -/
theorem test_crcChkT : wordAfter .crcChkT { State.reset with mbufT := ⟨0xBE, 0xEF, 0x92⟩ } .status = some 1 ∧
    wordAfter .crcChkT { State.reset with mbufT := ⟨0x64, 0x2B, 0x3C⟩, status := ⟨true, false, false, false, false, false, false⟩ }
      .status = some 0 := by decide +kernel

/-- L2.2. -/
theorem test_crcChkH : wordAfter .crcChkH { State.reset with mbufH := ⟨0x5E, 0x5D, 0x39⟩ } .status = some 1 ∧
    wordAfter .crcChkH { State.reset with mbufH := ⟨0x5E, 0x5D, 0x39⟩ } .crcOut = some 0x39 := by decide +kernel

/-- L2.3: raw 0x4000, negative; the check byte is not read. -/
theorem test_convT : resAfter .convT { State.reset with mbufT := ⟨0x40, 0x00, 0x00⟩ } = some 0xFFFFFFFEC02D0000 ∧
    resAfter .convT { State.reset with mbufT := ⟨0x64, 0x2B, 0x00⟩ } = some 0x0000001779AB6E3C := by decide +kernel

/-- L2.3. -/
theorem test_convH : resAfter .convH { State.reset with mbufH := ⟨0x5E, 0x5D, 0x39⟩ } = some 0x00000024DC758B0F ∧
    resAfter .convH { State.reset with mbufH := ⟨0xFF, 0xFF, 0x00⟩ } = some 0x00000063FFF6FFA5 := by decide +kernel

/-- L2.5. -/
theorem test_calT : resAfter .calT { State.reset with opa := 0x0000001779AB6E3C, caltF := 0x00000001028F5C29, caltS := 0xFFFFFFFF80000000 }
      = some 0x0000001735C42F57 ∧
    wordAfter .calT { State.reset with opa := 0x7FFFFFFFFFFFFFFF, caltS := 1 } .status = some 0x100 := by decide +kernel

/-- L2.5: CAL_H reads OPA. -/
theorem test_calH : resAfter .calH { State.reset with opa := 0xFFFFFFD300000000, calhF := 0x0000000200000000, calhS := 0x0000000500000000 }
      = some 0xFFFFFFAB00000000 := by decide +kernel

/-- L2.6, row 2. -/
theorem test_frame_accepts : wordAfter .frame buffered .status = some 0x01E ∧
    wordAfter .frame buffered (.lo .temp) = some 0x79AB6E3C ∧ wordAfter .frame buffered (.lo .rh) = some 0xDC758B0F := by
  decide +kernel

/-- L2.6, row 4: MBUF_H bad after a good reading. -/
theorem test_frame_stale :
    wordAfter .frame { sample with mbufH := ⟨0x5E, 0x5D, 0x3A⟩, status := ⟨false, true, true, true, true, false, false⟩ } .status
      = some 0x012 ∧
    wordAfter .frame { sample with mbufH := ⟨0x5E, 0x5D, 0x3A⟩ } (.lo .temp) = some 0x79AB6E3C := by decide +kernel

/-- L2.4. -/
theorem test_getTC : resAfter (.getTC .cached) sample = some 0x0000001779AB6E3C ∧
    resAfter (.getTC .operand) { State.reset with opa := 0x8000000000000000 } = some 0x8000000000000000 := by decide +kernel

/-- L2.4. -/
theorem test_getTF : resAfter (.getTF .cached) sample = some 0x0000004A4167C671 ∧
    resAfter (.getTF .operand) { State.reset with opa := 0xFFFFFFD800000000 } = some 0xFFFFFFD7FFFFFFF8 := by decide +kernel

/-- L2.4: MIN does not saturate in Kelvin. -/
theorem test_getTK : resAfter (.getTK .cached) sample = some 0x00000128A011D4A2 ∧
    resAfter (.getTK .operand) { State.reset with opa := 0x8000000000000000 } = some 0x8000011126666666 := by decide +kernel

/-- L2.9. -/
theorem test_ahMmhg : resAfter (.ahMmhg .cached) sample = some 0x000000207002F47A ∧
    wordAfter (.ahMmhg .operand) { polyB with opa := 0x7FFFFFFFFFFFFFFF } .status = some 0x100 := by decide +kernel

/-- L2.9. -/
theorem test_ahTorr : resAfter (.ahTorr .operand) polyB = some 0x0000001B50A3D714 := by decide +kernel

/-- L2.9. -/
theorem test_ahPa : resAfter (.ahPa .cached) sample = some 0x000010E4A36D4AE6 ∧
    resAfter (.ahPa .operand) polyB = some 0x00000E39B0C00A4B := by decide +kernel

/-- L2.9. -/
theorem test_ahBar : resAfter (.ahBar .cached) sample = some 0x000000000B1226FD ∧
    resAfter (.ahBar .operand) polyB = some 0x0000000009529510 := by decide +kernel

/-- L2.9. -/
theorem test_ahAt : resAfter (.ahAt .cached) sample = some 0x000000000B4A0FCD ∧
    resAfter (.ahAt .operand) polyB = some 0x000000000981A998 := by decide +kernel

/-- L2.9. -/
theorem test_ahAtm : resAfter (.ahAtm .cached) sample = some 0x000000000AED29C2 ∧
    resAfter (.ahAtm .operand) polyB = some 0x0000000009336F37 := by decide +kernel

/-- L2.9. -/
theorem test_ahMh2o : resAfter (.ahMh2o .cached) sample = some 0x0000000070E49E05 ∧
    resAfter (.ahMh2o .operand) polyB = some 0x000000005F109FEB := by decide +kernel

/-- L2.9. -/
theorem test_ahPsi : resAfter (.ahPsi .cached) sample = some 0x00000000A0931DB4 ∧
    resAfter (.ahPsi .operand) polyB = some 0x000000008737785D := by decide +kernel

/-- L1.11 and L2.9. -/
theorem test_ahSel : resAfter (.ahSel 8 .cached) sample = some 0x000000207002F47A ∧
    resAfter (.ahSel 15 .operand) polyB = some 0x0000001B50A3D714 := by decide +kernel

/-- L2.7, at and just above a break of Variant30 and of Variant35. -/
theorem test_tolTC : resAfter (.tolTC .operand) (asked .variant30 0x0000004100000001) = some 0x0000000033C3611B ∧
    resAfter (.tolTC .operand) (asked .variant31 0x0000005A00000001) = some 0x0000000033DD980D ∧
    resAfter (.tolTC .operand) (asked .variant35 0x0000003C00000000) = some 0x000000001999999A ∧
    resAfter (.tolTC .operand) (asked .variant35 0x0000003C00000001) = some 0xFFFFFFFFB3B645A6 := by decide +kernel

/-- L1.10: no offset. -/
theorem test_tolTF : resAfter (.tolTF .operand) (asked .variant30 0xFFFFFFD800000000) = some 0x00000001147AE14A ∧
    resAfter (.tolTF .operand) (asked .variant30 0x0000001700000000) = some 0x000000005C28F5C2 := by decide +kernel

/-- L1.10: the Celsius value. -/
theorem test_tolTK : resAfter (.tolTK .operand) (asked .variant30 0xFFFFFFD800000000) = some 0x000000009999999B := by decide +kernel

/-- L2.8. -/
theorem test_tolH : resAfter (.tolH .operand) (asked .variant30 0x0000000500000000) = some 0x0000000300000001 ∧
    resAfter (.tolH .operand) (asked .variant30 0x0000005F00000000) = some 0x00000002FFFFFFED ∧
    resAfter (.tolH .operand) (asked .variant31 0x7FFFFFFFFFFFFFFF) = some 0x0000000200000000 ∧
    resAfter (.tolH .operand) (asked .variant35 0x0000006400000000) = some 0x00000001FFFFFFD8 := by decide +kernel

/-! ### The register window (L2.11) -/

theorem test_read_id : answerTo (atOffset 0x000 (.read 4)) State.reset = some (.read 0x53480007 .okay) := by decide +kernel

theorem test_write_id_ignored : wordAfterEvent (atOffset 0x000 (.write 4 0)) State.reset .id = some 0x53480007 := by decide +kernel

theorem test_read_misaligned : answerTo (atOffset 0x006 (.read 4)) State.reset = some (.read 0 .error) := by decide +kernel

theorem test_write_cmd_halfword : answerTo (atOffset 0x004 (.write 2 7)) buffered = some (.write .error) ∧
    wordAfterEvent (atOffset 0x004 (.write 2 7)) buffered .status = some 0 := by decide +kernel

theorem test_mbufT_top_byte : wordAfterEvent (atOffset 0x010 (.write 4 0xFF642B3B)) State.reset .mbufT = some 0x00642B3B := by
  decide +kernel

/-- STATUS 0x31E, written 0x0FF and 0x100. -/
theorem test_status_write :
    wordAfterEvent (atOffset 0x008 (.write 4 0x0FF)) { State.reset with status := ⟨false, true, true, true, true, true, true⟩ } .status
      = some 0x31E ∧
    wordAfterEvent (atOffset 0x008 (.write 4 0x100)) { State.reset with status := ⟨false, false, false, false, false, true, true⟩ } .status
      = some 0x200 := by decide +kernel

theorem test_cfg_write : wordAfterEvent (atOffset 0x00C (.write 4 0x103)) State.reset .cfg = some 0x100 ∧
    wordAfterEvent (atOffset 0x00C (.write 4 0x002)) { State.reset with cfg := ⟨.variant30, true⟩ } .cfg = some 0x100 := by decide +kernel

/-- P1 (L3.1): the locked configuration, and the status after a good frame, as they read. -/
theorem test_read_cfg_status :
    answerTo (atOffset 0x00C (.read 4)) { State.reset with cfg := ⟨.variant31, true⟩ } = some (.read 0x101 .okay) ∧
    answerTo (atOffset 0x008 (.read 4)) { State.reset with status := ⟨false, true, true, true, true, false, false⟩ }
      = some (.read 0x1E .okay) := by decide +kernel

/-- P5 (L3.5): the half-write hazard. -/
theorem test_half_write : wordAfterEvent (atOffset 0x024 (.write 4 0xFFFFFFD7)) { State.reset with opa := 0x80000000 } (.lo .opa)
    = some 0x80000000 ∧
    wordAfterEvent (atOffset 0x024 (.write 4 0xFFFFFFD7)) { State.reset with opa := 0x80000000 } (.hi .opa) = some 0xFFFFFFD7 := by
  decide +kernel

/-- P4 (L3.4). -/
theorem test_illegal_word : wordAfterEvent (commandWrite 0x0000000C) State.reset .status = some 0x200 ∧
    wordAfterEvent (commandWrite 0x0000000C) State.reset .cmd = some 0xC := by decide +kernel

/-- The host's word is fetched and run by the very next step. -/
theorem test_withFetchWord : (match step (State.reset.withFetchWord 32 0x0000000B) with
    | .next t => some t.res
    | .fault _ => none
    | .refused _ => none) = some 0x0000000400000000 := by decide +kernel

/-! ### Witnesses: each statement's hypotheses, met together, clause by clause -/

theorem witness_NoWordMatchesTwoRows : ∃ r ∈ commandRows, ∃ r' ∈ commandRows, r.accepts 0x00001F09 = true ∧ r'.accepts 0x00001F09 = true :=
  ⟨⟨"AH.SELn", 0x00000809, 0xFFFFE8FF⟩, by decide, ⟨"AH.SELn", 0x00000809, 0xFFFFE8FF⟩, by decide, by decide, by decide⟩

theorem witness_EncodedCommandMatchesItsOwnRow : (Instr.ahSel 8 .cached).WellFormed ∧ (Instr.ahSel 15 .operand).WellFormed ∧
    (⟨"AH.SELn", 0x00000809, 0xFFFFE8FF⟩ : CommandRow) ∈ commandRows := ⟨rfl, rfl, by decide⟩

/-- A word of each reason of R98, the least and the greatest of each field where there are two; and one that is legal. -/
theorem witness_IllegalWordsSetErrAndNothingElse :
    IllegalWord 0x00002000 ∧ IllegalWord 0x80000007 ∧ IllegalWord 0x0000000C ∧ IllegalWord 0x000000FF ∧ IllegalWord 0x00000201 ∧
    IllegalWord 0x00000F02 ∧ IllegalWord 0x00000308 ∧ IllegalWord 0x00000F0A ∧ IllegalWord 0x00000100 ∧ IllegalWord 0x00000103 ∧
    IllegalWord 0x00000F07 ∧ IllegalWord 0x0000010B ∧ IllegalWord 0x00001000 ∧ IllegalWord 0x00001007 ∧ ¬ IllegalWord 0x00001F09 := by
  simp [IllegalWord]

theorem witness_StepRunsTheDecodedCommand : decode 0x00000007 = .ok .frame ∧ decode 0x00001F09 = .ok (.ahSel 15 .operand) := ⟨rfl, rfl⟩

theorem witness_SaturationClampsToTheFxRange :
    (2 ^ 63 : Int) > 2 ^ 63 - 1 ∧ (-2 ^ 63 - 1 : Int) < -2 ^ 63 ∧ (-2 ^ 63 : Int) ≤ 2 ^ 63 - 1 ∧ (sat64 (2 ^ 63)).ovf = true ∧
    (sat64 (-2 ^ 63 - 1)).ovf = true ∧ (sat64 (2 ^ 63 - 1)).ovf = false ∧ (sat64 (-2 ^ 63)).ovf = false := by decide +kernel

theorem witness_MacAndAddsatClampTheExactSum :
    (addsat 0x7FFFFFFFFFFFFFFF 1).ovf = true ∧ (addsat 0x8000000000000000 (-1)).ovf = true ∧ (mac 0x7FFFFFFFFFFFFFFF 0x0000000200000000 0).ovf = true :=
  by decide +kernel

theorem witness_DivisionByThousandIsNearestAndNeverOverflows : (500#64).toInt = 1000 * 0 + 500 ∧ (-500#64).toInt = 1000 * (-1) + 500 := by
  decide +kernel

theorem witness_RoundingLaws : (-1 : Int) ≤ 0 ∧ (1 : Int) % 2 ^ 32 ≠ 2 ^ 31 ∧ (2 ^ 31 : Int) % 2 ^ 32 = 2 ^ 31 ∧
    (-2 ^ 31 : Int) % 2 ^ 32 = 2 ^ 31 := by decide +kernel

theorem witness_ChecksumDetectsOneAndTwoBitErrors : (SensorGroup.mk 0xBE 0xEF 0x92).good = true ∧ (0 : Fin 24) ≠ 23 ∧ (7 : Fin 24) ≠ 8 := by
  decide +kernel

theorem witness_CalAppliesTheChannelFactors : State.reset.caltF = 0x0000000100000000 ∧ State.reset.caltS = 0 ∧
    State.reset.calhF = 0x0000000100000000 ∧ State.reset.calhS = 0 := ⟨rfl, rfl, rfl, rfl⟩

theorem witness_ChannelsAreIndependent : Instr.calT ≠ .calH ∧ Instr.calT ≠ .frame ∧ Instr.calH ≠ .calT ∧ Instr.calH ≠ .frame := by decide

theorem witness_FrameCachesTheCalibratedReading : buffered.mbufT.good = true ∧ buffered.mbufH.good = true := by decide +kernel

theorem witness_FrameIsStaleOnFailure :
    { buffered with mbufT := ⟨0x64, 0x2A, 0x3B⟩ }.mbufT.good = false ∧ { buffered with mbufH := ⟨0x5E, 0x5D, 0x38⟩ }.mbufH.good = false := by
  decide +kernel

/-- Each channel above and below the range, the other inside it (the humidity 24157 * K_H is positive, as is the temperature). -/
theorem witness_SaturatedFrameIsCached :
    buffered.mbufT.good = true ∧ buffered.mbufH.good = true ∧
    2 ^ 63 - 1 < rnd32 ((convT 0x642B).toInt * (0x4000000000000000#64).toInt) + (0#64).toInt ∧
    rnd32 ((convT 0x642B).toInt * (0xC000000000000000#64).toInt) + (0#64).toInt < -2 ^ 63 ∧
    2 ^ 63 - 1 < rnd32 ((convH 0x5E5D).toInt * (0x4000000000000000#64).toInt) + (0#64).toInt ∧
    rnd32 ((convH 0x5E5D).toInt * (0xC000000000000000#64).toInt) + (0#64).toInt < -2 ^ 63 := by decide +kernel

theorem witness_CachedStateChangesOnlyInAnAcceptedFrame :
    (∃ t, step (buffered.facing (commandWrite 0x00000007) []) = .next t ∧ t.temp ≠ buffered.temp ∧ t.rh ≠ buffered.rh) ∧
    (∃ t, step { sample with host := [.assertReset none] } = .next t ∧ t.temp ≠ sample.temp) :=
  ⟨⟨_, rfl, by decide +kernel, by decide +kernel⟩, ⟨_, rfl, by decide⟩⟩

theorem witness_AhCornerCases : (tIn .cached State.reset = 0 ∧ hIn .cached State.reset = 0) ∧
    (let s : State := { sample with poly0 := 0x0000000100000000, poly1 := 0, poly2 := 0, poly3 := 0, poly4 := 0, poly5 := 0 }
     s.poly0 = 0x0000000100000000 ∧ s.poly1 = 0 ∧ s.poly2 = 0 ∧ s.poly3 = 0 ∧ s.poly4 = 0 ∧ s.poly5 = 0) := by decide

/-- The patterns at each break and one ulp above it, and the extremes. -/
theorem witness_TemperatureTableRows :
    (0x8000000000000000#64).toInt ≤ 0 ∧ (0#64).toInt ≤ 0 ∧ 0 < (1#64).toInt ∧ (1#64).toInt ≤ 20 * 2 ^ 32 ∧
    0 < (0x0000001400000000#64).toInt ∧ (0x0000001400000000#64).toInt ≤ 20 * 2 ^ 32 ∧ 20 * 2 ^ 32 < (0x0000001400000001#64).toInt ∧
    (0x0000003C00000000#64).toInt ≤ 60 * 2 ^ 32 ∧ 60 * 2 ^ 32 < (0x0000003C00000001#64).toInt ∧
    (0x0000004100000000#64).toInt ≤ 65 * 2 ^ 32 ∧ 65 * 2 ^ 32 < (0x0000004100000001#64).toInt ∧
    (0x0000005A00000000#64).toInt ≤ 90 * 2 ^ 32 ∧ 90 * 2 ^ 32 < (0x0000005A00000001#64).toInt ∧
    90 * 2 ^ 32 < (0x7FFFFFFFFFFFFFFF#64).toInt := by decide +kernel

theorem witness_HumidityTableRows :
    (0x00000009FFFFFFFF#64).toInt < 10 * 2 ^ 32 ∧ 10 * 2 ^ 32 ≤ (0x0000000A00000000#64).toInt ∧
    (0x0000005A00000000#64).toInt ≤ 90 * 2 ^ 32 ∧ 90 * 2 ^ 32 < (0x0000005A00000001#64).toInt ∧
    (0x0000005000000000#64).toInt ≤ 80 * 2 ^ 32 ∧ 80 * 2 ^ 32 < (0x0000005000000001#64).toInt := by decide +kernel

theorem witness_NopDoesNothing : (0x00000100#32 = 0x00000100 ∨ 0x00000100#32 = 0x00001000) ∧
    (0x00001000#32 = 0x00000100 ∨ 0x00001000#32 = 0x00001000) := by decide

theorem witness_ReadAnswersTheWordAndChangesNothing : (0x000#12).toNat % 4 = 0 ∧ (0xFFC#12).toNat % 4 = 0 ∧
    State.reset.cfg.variant = .variant30 ∧ (asked .variant31 0).cfg.variant = .variant31 ∧ (asked .variant35 0).cfg.variant = .variant35 :=
  ⟨rfl, rfl, rfl, rfl, rfl⟩

/-- The first and the last aligned offset of each reserved range of R61. -/
theorem witness_RegisterMapIsTheTable : ∀ off ∈ [0x01C#12, 0x068, 0x07C, 0x0B0, 0xFFC], off.toNat % 4 = 0 ∧
    (off.toNat = 0x01C ∨ (0x068 ≤ off.toNat ∧ off.toNat ≤ 0x07C) ∨ 0x0B0 ≤ off.toNat) := by decide

theorem witness_BusErrorChangesNoRegister : ((2 : Nat) ≠ 4 ∧ (0x004#12).toNat % 4 = 0) ∧ (0x006#12).toNat % 4 ≠ 0 ∧ (0xFFF#12).toNat % 4 ≠ 0 := by
  decide

theorem witness_CfgWriteIsWarlAndLocks : { State.reset with cfg := ⟨.variant30, true⟩ }.cfg.lock = true ∧ State.reset.cfg.lock = false ∧
    (0x100#32).toNat % 4 = 0 ∧ (0xFFFFFFFD#32).toNat % 4 = 1 ∧ (0x102#32).toNat % 4 = 2 ∧ (0x103#32).toNat % 4 = 3 := by decide

theorem witness_HalfWritesAreIndependent : FxReg.calhS ∈ [FxReg.opa, .opb, .caltF, .caltS, .calhF, .calhS] ∧
    BusWord.lo .opb ≠ .lo .opa ∧ BusWord.lo .opb ≠ .hi .opa ∧
    (0x020#12).toNat % 4 = 0 ∧ busWord 0x020 = .lo .opa ∧ (0x064#12).toNat % 4 = 0 ∧ busWord 0x064 = .hi .calhS := by decide

theorem witness_ReadOnlyAndReservedIgnoreWrites : busWord 0x000 = .id ∧ busWord 0x018 = .crcOut ∧ busWord 0x030 = .lo .res ∧
    busWord 0x0AC = .hi .poly5 ∧ busWord 0x01C = .reserved ∧ busWord 0xFFC = .reserved := ⟨rfl, rfl, rfl, rfl, rfl, rfl⟩

theorem witness_BufferHoldsTheGroup : (0x010#12).toNat % 4 = 0 ∧ busWord 0x010 = .mbufT ∧ (0x014#12).toNat % 4 = 0 ∧
    busWord 0x014 = .mbufH := ⟨rfl, rfl, rfl, rfl⟩

/-- The first and the last address of the window, and the first past it. An address below BASE exists only where BASE is not 0,
which the spec leaves open; the last clause meets the hypothesis for every BASE. -/
theorem witness_HostAddressReachesTheWindow :
    (Config.base ≤ Config.base ∧ Config.base < Config.base + 0x1000) ∧
    (Config.base ≤ Config.base + 0xFFF ∧ Config.base + 0xFFF < Config.base + 0x1000) ∧
    Config.base + 0x1000 ≤ Config.base + 0x1000 := by omega

theorem witness_ResetInputResetsEveryRegister : { State.reset with resetAsserted := true }.resetAsserted = true := rfl

theorem witness_StepKeepsTheInvariant : ∃ t, State.reset.Inv ∧ step State.reset = .next t :=
  ⟨State.reset, ⟨⟨rfl, rfl, rfl, rfl, rfl, rfl, rfl⟩, ⟨rfl, by decide, fun _ => ⟨rfl, rfl⟩⟩, fun h => by cases h⟩, rfl⟩

theorem witness_StickyFlagsStay :
    let s : State := { State.reset with status := ⟨false, false, false, false, false, true, true⟩ }
    (∃ t, step (s.facing (atOffset 0x008 (.write 4 0x100)) []) = .next t ∧ s.status.ovf = true ∧ t.status.ovf = false) ∧
    (∃ t, step (s.facing (atOffset 0x008 (.write 4 0x200)) []) = .next t ∧ s.status.err = true ∧ t.status.err = false) :=
  ⟨⟨_, rfl, rfl, by decide +kernel⟩, ⟨_, rfl, rfl, by decide +kernel⟩⟩

theorem witness_LockHoldsUntilReset :
    let s : State := { State.reset with cfg := ⟨.variant31, true⟩, host := [.assertReset none] }
    ∃ t, step s = .next t ∧ s.cfg.lock = true ∧ t.cfg ≠ s.cfg := ⟨_, rfl, rfl, by decide⟩

theorem witness_CmdHoldsTheLastWordWritten : State.reset.acceptsWrite (commandWrite 0xC) .cmd 0xC ∧
    (∃ t, step (State.reset.facing (commandWrite 0xC) []) = .next t ∧ t.cmd ≠ State.reset.cmd) ∧
    decode 0x0000000C = .error .unassignedOpcode ∧ decode 0x00000007 = .ok .frame :=
  ⟨⟨rfl, _, _, rfl, rfl, rfl, rfl⟩, ⟨_, rfl, by decide +kernel⟩, rfl, rfl⟩

theorem witness_CommandsWriteOnlyTheirRegisters : writesRes .frame = false ∧ writesCrcOut .frame = false ∧ writesCrcOk .crcGenT = false ∧
    Instr.nop ≠ .frame ∧ canSaturate .convT = false ∧ canSaturate (.tolTF .operand) = false := by decide

theorem witness_EveryStepAnswersANextState : State.reset.host = [] := rfl

end Sys2Proof.Tests
end

section
/-! The rules of an aligned 32-bit access, each as the whole next state of its step, and what a register's write rule keeps.
The proofs about spec/10_state.md and the bus go through these and do not unfold the step. -/

namespace Sys2Proof.Machine

/-- An aligned 32-bit read answers the word at the offset and keeps every register (spec/20_memory.md R65, R69). -/
theorem step_facing_read (s : State) (off : Offset) (rest : List HostEvent) (h : off.toNat % 4 = 0) :
    step (s.facing (atOffset off (.read 4)) rest) = .next (s.answered rest (.read (s.readWord (busWord off)) .okay)) := by
  have ha : accessAllowed off (.read 4) = true := by simp [accessAllowed, Access.size, h]
  rw [step_facing_atOffset, busAccess, if_pos ha]
  rfl

/-- An aligned 32-bit write outside CMD: the register's write rule on the state as the host's event found it, answered OKAY. -/
theorem step_facing_writeWord (s : State) (off : Offset) (v : Word) (rest : List HostEvent) (h : off.toNat % 4 = 0)
    (hc : busWord off ≠ .cmd) :
    step (s.facing (atOffset off (.write 4 v)) rest) =
      .next ((s.writeWord (busWord off) v).answered rest (.write .okay)) := by
  rw [step_facing_register_write s off v rest h hc, State.writeWord_host_resetAsserted]
  rfl

/-- A write the block accepts is the register's write, answered OKAY, at an offset of that register. -/
theorem step_of_acceptsWrite (s : State) (e : HostEvent) (rest : List HostEvent) (b : BusWord) (v : Word)
    (he : s.host = e :: rest) (ha : s.acceptsWrite e b v) :
    ∃ off, busWord off = b ∧
      step s = onNext (regWrite off v { s with host := rest }) fun t => t.giveAnswer (.write .okay) := by
  obtain ⟨hr, p, off, rfl, hp, hal, hb⟩ := ha
  have hacc : accessAllowed off (.write 4 v) = true := by simp [accessAllowed, Access.size, hal]
  refine ⟨off, hb, ?_⟩
  rw [step_event s _ rest he]
  simp [serveEvent, serveTransaction, hr, hp, busAccess, hacc]

/-! ### What a write rule ignores -/

/-- The 64-bit registers that the host may write (spec/10_state.md R31, R34). -/
def FxReg.hostWritable (r : FxReg) : Bool :=
  match r with
  | .opa | .opb | .caltF | .caltS | .calhF | .calhS => true
  | .res | .temp | .rh | .poly0 | .poly1 | .poly2 | .poly3 | .poly4 | .poly5 => false

/-- The words whose writes are ignored: read-only registers and reserved offsets (spec/10_state.md R37). -/
def BusWord.ignoresWrites (b : BusWord) : Bool :=
  match b with
  | .id | .crcOut | .reserved => true
  | .cmd | .status | .cfg | .mbufT | .mbufH => false
  | .lo r | .hi r => !r.hostWritable

theorem BusWord.ne_cmd_of_ignoresWrites (b : BusWord) (h : b.ignoresWrites = true) : b ≠ .cmd := by
  rintro rfl
  cases h

theorem State.hostSetFx_of_not_hostWritable (s : State) (r : FxReg) (v : Fx) (h : r.hostWritable = false) :
    s.hostSetFx r v = s := by
  cases r with
  | opa | opb | caltF | caltS | calhF | calhS => cases h
  | res | temp | rh | poly0 | poly1 | poly2 | poly3 | poly4 | poly5 => rfl

theorem State.writeWord_of_ignoresWrites (s : State) (b : BusWord) (v : Word) (h : b.ignoresWrites = true) :
    s.writeWord b v = s := by
  cases b with
  | id | crcOut | reserved => rfl
  | cmd | status | cfg | mbufT | mbufH => cases h
  | lo r | hi r => exact s.hostSetFx_of_not_hostWritable r _ (by simpa [BusWord.ignoresWrites] using h)

@[simp] theorem State.hostSetFx_cmd (s : State) (r : FxReg) (v : Fx) : (s.hostSetFx r v).cmd = s.cmd := by
  cases r <;> rfl

/-- CMD is written by no write rule but its own (spec/10_state.md R22). -/
theorem State.writeWord_cmd_of_ne (s : State) (b : BusWord) (v : Word) (h : b ≠ .cmd) : (s.writeWord b v).cmd = s.cmd := by
  cases b with
  | cmd => exact absurd rfl h
  | lo r | hi r => exact s.hostSetFx_cmd r _
  | id | status | cfg | mbufT | mbufH | crcOut | reserved => rfl

/-- Where the bits outside `mask` do not matter to the write rule, they do not matter to the step either. -/
theorem step_facing_write_masked (s : State) (off : Offset) (v mask : Word) (rest : List HostEvent) (h : off.toNat % 4 = 0)
    (hc : busWord off ≠ .cmd) (hm : s.writeWord (busWord off) (v &&& mask) = s.writeWord (busWord off) v) :
    ∃ t, step (s.facing (atOffset off (.write 4 v)) rest) = .next t ∧
      step (s.facing (atOffset off (.write 4 (v &&& mask))) rest) = .next t ∧ t.answer = some (.write .okay) :=
  ⟨_, step_facing_writeWord s off v rest h hc, by rw [step_facing_writeWord s off _ rest h hc, hm], rfl⟩

end Sys2Proof.Machine
end

section
/-! STATUS, CFG and the buffers, field by field: which bits of a word they read as, and which bits of a written word act. -/

namespace Sys2Proof.Machine

/-! ### Reserved fields read 0

Bit by bit: the mask has a 0 there, or the bit is in a reserved field of the register's layout. -/

theorem Status.toWord_reserved (st : Status) : st.toWord &&& 0xFFFFFCE0 = 0 := by
  ext i hi
  simp only [BitVec.getElem_and, BitVec.getElem_zero, Status.toWord, BitVec.getElem_append]
  interval_cases i <;> simp

theorem CfgReg.toWord_reserved (c : CfgReg) : c.toWord &&& 0xFFFFFEFC = 0 := by
  ext i hi
  simp only [BitVec.getElem_and, BitVec.getElem_zero, CfgReg.toWord, BitVec.getElem_append]
  interval_cases i <;> simp

theorem SensorGroup.toWord_reserved (g : SensorGroup) : g.toWord &&& 0xFF000000 = 0 := by
  ext i hi
  simp only [BitVec.getElem_and, BitVec.getElem_zero, SensorGroup.toWord, BitVec.getElem_append]
  interval_cases i <;> simp

/-- CRC_OUT has no bit above its low byte (spec/10_state.md R30). -/
theorem State.readWord_crcOut_reserved (s : State) : s.readWord .crcOut &&& 0xFFFFFF00 = 0 := by
  ext i hi
  simp only [BitVec.getElem_and, BitVec.getElem_zero, State.readWord, BitVec.getElem_append]
  interval_cases i <;> simp

/-! ### Only the fields of a written word act -/

/-- Of a word written to STATUS only bits 8 and 9 act (spec/10_state.md R25). -/
theorem Status.hostWrite_masked (st : Status) (v : Word) : st.hostWrite (v &&& 0x00000300) = st.hostWrite v := by
  simp [Status.hostWrite]

/-- Of a word written to CFG only VARIANT and LOCK act (spec/10_state.md R26, R27). -/
theorem CfgReg.hostWrite_masked (c : CfgReg) (v : Word) : c.hostWrite (v &&& 0x00000103) = c.hostWrite v := by
  have hvariant : (v &&& 0x00000103).extractLsb' 0 2 = v.extractLsb' 0 2 := by
    rw [BitVec.extractLsb'_and, show (0x00000103 : Word).extractLsb' 0 2 = BitVec.allOnes 2 from rfl, BitVec.and_allOnes]
  have hlock : (v &&& 0x00000103).getLsbD 8 = v.getLsbD 8 := by simp
  rw [CfgReg.hostWrite, hvariant, hlock, CfgReg.hostWrite]

/-- Of a word written to a buffer bits 31:24 are ignored (spec/10_state.md R28, R29). -/
theorem groupOfWord_masked (v : Word) : groupOfWord (v &&& 0x00FFFFFF) = groupOfWord v := by
  have hbyte : ∀ k ∈ [0, 8, 16], (v &&& 0x00FFFFFF).extractLsb' k 8 = v.extractLsb' k 8 := by
    intro k hk
    have hones : (0x00FFFFFF : Word).extractLsb' k 8 = BitVec.allOnes 8 := by
      revert k
      decide
    rw [BitVec.extractLsb'_and, hones, BitVec.and_allOnes]
  rw [groupOfWord, hbyte 16 (by simp), hbyte 8 (by simp), hbyte 0 (by simp), groupOfWord]

/-! ### The write rules of STATUS and CFG, case by case -/

/-- A host write to STATUS, each cleared flag as a condition on its bit (spec/10_state.md R25). -/
theorem Status.hostWrite_eq (st : Status) (v : Word) :
    st.hostWrite v = { st with
      ovf := if v.getLsbD 8 then false else st.ovf,
      err := if v.getLsbD 9 then false else st.err } := by
  rw [Status.hostWrite]
  cases v.getLsbD 8 <;> cases v.getLsbD 9 <;> simp

/-- A locked CFG ignores a write. -/
theorem CfgReg.hostWrite_of_lock (c : CfgReg) (v : Word) (h : c.lock = true) : c.hostWrite v = c := by
  simp [CfgReg.hostWrite, h]

/-- An unlocked CFG takes LOCK from bit 8 and, where the value is legal, VARIANT from bits 1:0. -/
theorem CfgReg.hostWrite_of_not_lock (c : CfgReg) (v : Word) (h : c.lock = false) :
    c.hostWrite v = ⟨(variantOfBits (v.extractLsb' 0 2)).getD c.variant, v.getLsbD 8⟩ := by
  simp [CfgReg.hostWrite, h]

/-- Bits 1:0 of a word are its remainder by 4. -/
theorem extractLsb'_two_of_mod (v : Word) (b : BitVec 2) (h : v.toNat % 4 = b.toNat) : v.extractLsb' 0 2 = b := by
  apply BitVec.eq_of_toNat_eq
  simpa [BitVec.extractLsb'_toNat] using h

theorem CfgReg.hostWrite_of_mod (c : CfgReg) (v : Word) (b : BitVec 2) (h : c.lock = false) (hv : v.toNat % 4 = b.toNat) :
    c.hostWrite v = ⟨(variantOfBits b).getD c.variant, v.getLsbD 8⟩ := by
  rw [CfgReg.hostWrite_of_not_lock c v h, extractLsb'_two_of_mod v b hv]

/-- The step that serves a write to CFG, whatever CFG becomes. -/
theorem step_facing_cfg_write (s : State) (v : Word) (rest : List HostEvent) (c : CfgReg) (hc : s.cfg.hostWrite v = c) :
    step (s.facing (atOffset 0x00C (.write 4 v)) rest) = .next ({ s with cfg := c }.answered rest (.write .okay)) := by
  rw [step_facing_writeWord s 0x00C v rest rfl (by decide), ← hc]
  rfl

/-! ### The tolerance commands read VARIANT when they execute (spec/46_tolerance.md R209) -/

theorem exec_tolTC (src : Src) (s : State) :
    exec (.tolTC src) s = .next (s.writeResult (tolT s.cfg.variant (tIn src s))) := rfl

theorem exec_tolTF (src : Src) (s : State) :
    exec (.tolTF src) s = .next (s.writeResult (tolTFahrenheit s.cfg.variant (tIn src s))) := rfl

theorem exec_tolTK (src : Src) (s : State) :
    exec (.tolTK src) s = .next (s.writeResult (tolT s.cfg.variant (tIn src s))) := rfl

theorem exec_tolH (src : Src) (s : State) :
    exec (.tolH src) s = .next (s.writeResult (tolH s.cfg.variant (hIn src s))) := rfl

end Sys2Proof.Machine
end

section
/-! CMD (spec/10_state.md R22): no command writes it, so it holds the last word stored. -/

namespace Sys2Proof.Machine

/-- No command writes CMD. -/
theorem exec_keeps_cmd (i : Instr) (s t : State) (h : exec i s = .next t) : t.cmd = s.cmd := by
  rcases exec_cases i s with ⟨_, hnop⟩ | ⟨g, _, hgen⟩ | ⟨g, _, hchk⟩ | ⟨_, hframe⟩ | ⟨r, _, hres⟩
  · cases hnop.symm.trans h
    rfl
  · cases hgen.symm.trans h
    simp [crcGen]
  · cases hchk.symm.trans h
    simp [crcChk]
  · cases hframe.symm.trans h
    obtain ⟨_, hcmd, _⟩ := frameEffect_frame s
    exact hcmd
  · cases hres.symm.trans h
    exact s.writeResult_cmd r

/-- A write at the offset of CMD leaves its word there, whatever the word then does. -/
theorem regWrite_cmd_holds (off : Offset) (v : Word) (s : State) (hb : busWord off = .cmd) :
    ∃ t, regWrite off v s = .next t ∧ t.cmd = v := by
  rcases regWrite_cases off v s with ⟨_, _, hw⟩ | ⟨_, i, _, hw⟩ | ⟨hne, _⟩
  · exact ⟨_, hw, rfl⟩
  · obtain ⟨t, ht⟩ := exec_answers i { s with cmd := v }
    exact ⟨t, hw.trans ht, exec_keeps_cmd i _ t ht⟩
  · exact absurd hb hne

/-- An accepted write to CMD leaves its word there. -/
theorem step_cmd_of_acceptsWrite (s : State) (e : HostEvent) (rest : List HostEvent) (w : Word) (he : s.host = e :: rest)
    (ha : s.acceptsWrite e .cmd w) : ∃ t, step s = .next t ∧ t.cmd = w := by
  obtain ⟨off, hb, hs⟩ := step_of_acceptsWrite s e rest .cmd w he ha
  obtain ⟨t, ht, hcmd⟩ := regWrite_cmd_holds off w { s with host := rest } hb
  exact ⟨t.giveAnswer (.write .okay), by rw [hs, ht, onNext_next], hcmd⟩

/-- Only reset and an accepted write change CMD; the write leaves its own word. -/
theorem step_cmd_changed (s t : State) (h : step s = .next t) (hne : t.cmd ≠ s.cmd) :
    ∃ e rest, s.host = e :: rest ∧ ((e.assertsReset ∧ t.cmd = 0) ∨ s.acceptsWrite e .cmd t.cmd) := by
  rcases step_next_cases s t h with ⟨_, rfl⟩ | ⟨e, rest, he, hcase⟩
  · exact absurd rfl hne
  refine ⟨e, rest, he, ?_⟩
  rcases hcase with ⟨hr, rfl⟩ | ⟨a, b, rfl, _⟩ | ⟨v, off, _, hb, rfl⟩ | ⟨v, ha, _, rfl⟩ | ⟨v, i, u, ha, _, hu, rfl⟩
  · exact .inl ⟨hr, rfl⟩
  · exact absurd rfl hne
  · exact absurd (State.writeWord_cmd_of_ne { s with host := rest } _ v hb) hne
  · exact .inr ha
  · have hcmd : (u.giveAnswer (.write .okay)).cmd = v := exec_keeps_cmd i _ u hu
    exact .inr (hcmd ▸ ha)

/-- The step that serves a write to CMD runs the word on the state that already holds it. -/
theorem step_facing_cmd_write (s : State) (w : Word) (rest : List HostEvent) :
    step (s.facing (atOffset 0x004 (.write 4 w)) rest) =
      onNext (runCommand w { s with cmd := w, host := rest, resetAsserted := false }) fun t => t.giveAnswer (.write .okay) :=
  step_facing_write s 0x004 w rest rfl

theorem runCommand_of_ok (w : Word) (i : Instr) (s : State) (h : decode w = .ok i) : runCommand w s = exec i s := by
  simp [runCommand, h]

theorem runCommand_of_error (w : Word) (r : DecodeError) (s : State) (h : decode w = .error r) :
    runCommand w s = .next s.raiseIllegalCommand := by
  simp [runCommand, h]

end Sys2Proof.Machine
end

section
/-! The statements about the registers of spec/10_state.md: CMD, read-only and reserved bits, STATUS, CFG, and reset. -/

namespace Sys2Proof.Machine

/-- Settles O46: a write rule that ignores its word, or the bits outside a mask, gives a step that ignores them. -/
theorem readOnlyAndReservedIgnoreWrites : Obligations.ReadOnlyAndReservedIgnoreWrites := by
  refine ⟨fun s off v rest hal hb => ?_, fun s => ?_, fun s v rest p hp => ?_⟩
  · have hro : (busWord off).ignoresWrites = true := by
      generalize busWord off = b at hb
      revert b
      decide
    rw [step_facing_writeWord s off v rest hal (BusWord.ne_cmd_of_ignoresWrites _ hro), State.writeWord_of_ignoresWrites s _ v hro]
  · exact ⟨s.status.toWord_reserved, s.cfg.toWord_reserved, s.mbufT.toWord_reserved, s.mbufH.toWord_reserved,
      s.readWord_crcOut_reserved, rfl⟩
  · simp only [List.mem_cons, List.not_mem_nil, or_false] at hp
    rcases hp with rfl | rfl | rfl | rfl
    · exact step_facing_write_masked s _ v _ rest rfl (by decide)
        (congrArg (fun st => { s with status := st }) (s.status.hostWrite_masked v))
    · exact step_facing_write_masked s _ v _ rest rfl (by decide)
        (congrArg (fun c => { s with cfg := c }) (s.cfg.hostWrite_masked v))
    · exact step_facing_write_masked s _ v _ rest rfl (by decide)
        (congrArg (fun g => { s with mbufT := g }) (groupOfWord_masked v))
    · exact step_facing_write_masked s _ v _ rest rfl (by decide)
        (congrArg (fun g => { s with mbufH := g }) (groupOfWord_masked v))

/-- Settles O55: the storing comes before the execution, and no command writes CMD. -/
theorem cmdHoldsTheLastWordWritten : Obligations.CmdHoldsTheLastWordWritten := by
  refine ⟨step_cmd_of_acceptsWrite, step_cmd_changed, fun s rest => step_facing_read s 0x004 rest rfl, ?_, ?_, rfl⟩
  · intro s w i rest hd
    rw [step_facing_cmd_write, runCommand_of_ok w i _ hd]
    rfl
  · intro s w r rest hd
    rw [step_facing_cmd_write, runCommand_of_error w r _ hd]
    rfl

/-- Settles O43: the step is STATUS's own write rule, whose two conditions are bits 8 and 9. -/
theorem statusWriteClearsOvfAndErrOnly : Obligations.StatusWriteClearsOvfAndErrOnly := by
  intro s v rest
  rw [step_facing_writeWord s 0x008 v rest rfl (by decide), ← Status.hostWrite_eq]
  rfl

/-- Settles O44: the tolerance commands write a function of the variant in CFG, and a write to CFG is decided by the lock and
by the two bits of VARIANT. -/
theorem cfgWriteIsWarlAndLocks : Obligations.CfgWriteIsWarlAndLocks := by
  refine ⟨fun s src => ⟨⟨_, exec_tolTC src s, s.writeResult_res _⟩, ⟨_, exec_tolTF src s, s.writeResult_res _⟩,
      ⟨_, exec_tolH src s, s.writeResult_res _⟩⟩,
    ⟨fun v x => (tolT v x).value, fun s src => ⟨_, exec_tolTK src s, s.writeResult_res _⟩⟩,
    fun s v rest => ⟨fun hl => ?_, fun hl hv => ?_, fun hl hv => ?_, fun hl hv => ?_, fun hl hv => ?_⟩⟩
  · exact step_facing_cfg_write s v rest _ (CfgReg.hostWrite_of_lock _ v hl)
  · exact step_facing_cfg_write s v rest _ (CfgReg.hostWrite_of_mod _ v 0b00#2 hl hv)
  · exact step_facing_cfg_write s v rest _ (CfgReg.hostWrite_of_mod _ v 0b01#2 hl hv)
  · exact step_facing_cfg_write s v rest _ (CfgReg.hostWrite_of_mod _ v 0b10#2 hl hv)
  · exact step_facing_cfg_write s v rest _ (CfgReg.hostWrite_of_mod _ v 0b11#2 hl hv)

/-- Settles O49: `State.reset` evaluates, register by register, to the values of spec/10_state.md R41. -/
theorem resetValues : Obligations.ResetValues :=
  ⟨rfl, rfl, rfl, rfl, rfl, rfl, rfl, rfl, rfl, rfl, rfl, rfl, rfl, rfl, rfl, rfl, rfl, rfl, rfl, rfl, rfl, rfl, rfl, rfl, rfl⟩

end Sys2Proof.Machine
end

section
/-! The window of spec/20_memory.md: what a host write to one half of a 64-bit register does to every word read after it, and
which accesses are refused. -/

namespace Sys2Proof.Machine

/-! ### A bus error (spec/60_exceptions.md R233) -/

/-- An access of another size than 4, or at an offset that is no multiple of 4, is not allowed (spec/20_memory.md R62, R63). -/
theorem accessAllowed_eq_false (off : Offset) (a : Access) (h : a.size ≠ 4 ∨ off.toNat % 4 ≠ 0) :
    accessAllowed off a = false := by
  rcases h with hsize | halign
  · simp [accessAllowed, hsize]
  · simp [accessAllowed, halign]

/-- The step that serves a refused access raises a bus error. -/
theorem step_facing_refused (s : State) (off : Offset) (a : Access) (rest : List HostEvent)
    (h : a.size ≠ 4 ∨ off.toNat % 4 ≠ 0) :
    step (s.facing (atOffset off a) rest) = .next ({ s with host := rest, resetAsserted := false }.raiseBusError a) := by
  rw [step_facing_atOffset]
  simp [busAccess, accessAllowed_eq_false off a h]

/-! ### The halves of a 64-bit register (spec/20_memory.md R68) -/

@[simp] theorem State.readWord_lo (s : State) (r : FxReg) : s.readWord (.lo r) = loHalf (s.getFx r) := rfl

@[simp] theorem State.readWord_hi (s : State) (r : FxReg) : s.readWord (.hi r) = hiHalf (s.getFx r) := rfl

theorem State.writeWord_lo (s : State) (r : FxReg) (v : Word) :
    s.writeWord (.lo r) v = s.hostSetFx r (withLo (s.getFx r) v) := rfl

theorem State.writeWord_hi (s : State) (r : FxReg) (v : Word) :
    s.writeWord (.hi r) v = s.hostSetFx r (withHi (s.getFx r) v) := rfl

/-- A host write to `r` is seen in `r` alone, and only where `r` is writable (spec/10_state.md R31, R34, R37). -/
theorem State.getFx_hostSetFx (s : State) (r q : FxReg) (v : Fx) :
    (s.hostSetFx r v).getFx q = if q = r ∧ r.hostWritable = true then v else s.getFx q := by
  cases r with
  | opa | opb | caltF | caltS | calhF | calhS => cases q <;> rfl
  | res | temp | rh | poly0 | poly1 | poly2 | poly3 | poly4 | poly5 => simp [State.hostSetFx, FxReg.hostWritable]

theorem State.getFx_hostSetFx_same (s : State) (r : FxReg) (v : Fx) (h : r.hostWritable = true) :
    (s.hostSetFx r v).getFx r = v := by
  simp [State.getFx_hostSetFx, h]

/-- A host write to a 64-bit register is seen in no word but that register's two. -/
theorem State.readWord_hostSetFx_of_ne (s : State) (r : FxReg) (v : Fx) (b : BusWord) (hlo : b ≠ .lo r) (hhi : b ≠ .hi r) :
    (s.hostSetFx r v).readWord b = s.readWord b := by
  cases b with
  | lo q =>
    have hq : q ≠ r := fun e => hlo (e ▸ rfl)
    simp [State.getFx_hostSetFx, hq]
  | hi q =>
    have hq : q ≠ r := fun e => hhi (e ▸ rfl)
    simp [State.getFx_hostSetFx, hq]
  | id | cmd | status | cfg | mbufT | mbufH | crcOut | reserved => cases r <;> rfl

/-- A write to the low half reads back there, and the high half keeps its bits. -/
theorem State.readWord_writeWord_lo (s : State) (r : FxReg) (v : Word) (h : r.hostWritable = true) :
    (s.writeWord (.lo r) v).readWord (.lo r) = v ∧ (s.writeWord (.lo r) v).readWord (.hi r) = s.readWord (.hi r) := by
  simp [State.writeWord_lo, State.getFx_hostSetFx_same, h]

/-- A write to the high half reads back there, and the low half keeps its bits. -/
theorem State.readWord_writeWord_hi (s : State) (r : FxReg) (v : Word) (h : r.hostWritable = true) :
    (s.writeWord (.hi r) v).readWord (.hi r) = v ∧ (s.writeWord (.hi r) v).readWord (.lo r) = s.readWord (.lo r) := by
  simp [State.writeWord_hi, State.getFx_hostSetFx_same, h]

/-- Every word's own offset is a multiple of 4 (spec/20_memory.md R61). -/
theorem BusWord.offset_aligned (b : BusWord) : b.offset.toNat % 4 = 0 := by
  cases b with
  | lo r | hi r => cases r <;> rfl
  | id | cmd | status | cfg | mbufT | mbufH | crcOut | reserved => rfl

/-- A read of a word at its own offset answers the word's current bits. -/
theorem step_facing_read_offset (s : State) (b : BusWord) (rest : List HostEvent) :
    step (s.facing (atOffset b.offset (.read 4)) rest) = .next (s.answered rest (.read (s.readWord b) .okay)) := by
  rw [step_facing_read s b.offset rest b.offset_aligned, busWord_offset]

/-- A result that no `sat64` produced changes RES alone (spec/40_numerics.md R131). -/
theorem State.writeResult_exact (s : State) (v : Fx) : s.writeResult (.exact v) = { s with res := v } := by
  simp [State.writeResult]

/-- GET_T.C copies the bits of its input to RES and changes nothing else (spec/42_conversion.md R164). -/
theorem exec_getTC (src : Src) (s : State) : exec (.getTC src) s = .next { s with res := tIn src s } := by
  rw [← State.writeResult_exact]
  rfl

end Sys2Proof.Machine
end

section
/-! The statements about the register window of spec/20_memory.md: bus errors, and the halves of the 64-bit registers. -/

namespace Sys2Proof.Machine

/-- Settles O42: either condition fails, so the step raises a bus error, whose two forms are the read's and the write's. -/
theorem busErrorChangesNoRegister : Obligations.BusErrorChangesNoRegister :=
  ⟨fun s off n rest h => step_facing_refused s off (.read n) rest h,
    fun s off n v rest h => step_facing_refused s off (.write n v) rest h⟩

/-- Settles O45: a half write is a whole write of the register with the other half's own bits, which no other word shows. -/
theorem halfWritesAreIndependent : Obligations.HalfWritesAreIndependent := by
  refine ⟨fun s r => hiHalf_append_loHalf (s.getFx r), fun s v r hr => ?_, fun s v r b hlo hhi => ?_, fun s off v rest hal hb => ?_,
    fun s v rest p hp => ?_, fun s v => ⟨exec_getTC .operand _, exec_getTC .operand _⟩,
    fun s r rest => ⟨step_facing_read_offset s (.lo r) rest, step_facing_read_offset s (.hi r) rest⟩⟩
  · have hwritable : r.hostWritable = true := by
      revert r
      decide
    obtain ⟨hlo, hloKeepsHi⟩ := s.readWord_writeWord_lo r v hwritable
    obtain ⟨hhi, hhiKeepsLo⟩ := s.readWord_writeWord_hi r v hwritable
    exact ⟨hlo, hloKeepsHi, hhi, hhiKeepsLo⟩
  · exact ⟨s.readWord_hostSetFx_of_ne r _ b hlo hhi, s.readWord_hostSetFx_of_ne r _ b hlo hhi⟩
  · exact step_facing_writeWord s off v rest hal fun hcmd => absurd (hcmd ▸ hb) (by decide)
  · have hrow : p.1.toNat % 4 = 0 ∧ busWord p.1 ≠ .cmd ∧ s.writeWord (busWord p.1) v = p.2 := by
      simp only [List.mem_cons, List.not_mem_nil, or_false] at hp
      rcases hp with rfl | rfl | rfl | rfl | rfl | rfl | rfl | rfl | rfl | rfl | rfl | rfl <;>
        (dsimp only; exact ⟨rfl, by decide, rfl⟩)
    obtain ⟨hal, hcmd, hwrite⟩ := hrow
    rw [step_facing_writeWord s p.1 v rest hal hcmd, hwrite]

end Sys2Proof.Machine
end

section
/-! Which words are commands, said once over the fields of spec/30_encoding.md R90 as numbers: the decode function of R97 and
the match/mask table of R96 accept the same field values. -/

namespace Sys2Proof

/-! ### The fields as numbers -/

theorem opcField_toNat (w : Word) : (opcField w).toNat = w.toNat % 256 := by
  simp [opcField, BitVec.extractLsb'_toNat]

theorem selField_toNat (w : Word) : (selField w).toNat = w.toNat / 256 % 16 := by
  simp [selField, BitVec.extractLsb'_toNat, Nat.shiftRight_eq_div_pow]

theorem srcField_toNat (w : Word) : (srcField w).toNat = w.toNat / 4096 % 2 := by
  simp [srcField, BitVec.extractLsb'_toNat, Nat.shiftRight_eq_div_pow]

theorem rsvField_toNat (w : Word) : (rsvField w).toNat = w.toNat / 8192 := by
  have hw : w.toNat / 8192 < 2 ^ 19 := by have := w.isLt; omega
  simpa [rsvField, BitVec.extractLsb'_toNat, Nat.shiftRight_eq_div_pow] using hw

/-- A word is its four fields (spec/30_encoding.md R90). -/
theorem word_eq_iff_fields (w v : Word) :
    w = v ↔ rsvField w = rsvField v ∧ opcField w = opcField v ∧ selField w = selField v ∧ srcField w = srcField v := by
  simp only [← BitVec.toNat_inj, rsvField_toNat, opcField_toNat, selField_toNat, srcField_toNat]
  omega

/-! ### Legality -/

/-- The function `legal` of spec/30_encoding.md R97, over the fields as numbers. -/
def LegalFields (opc sel src : Nat) : Prop :=
  match opc with
  | 0x00 | 0x03 | 0x04 | 0x05 | 0x06 | 0x07 => sel = 0 ∧ src = 0
  | 0x01 | 0x02 => sel ≤ 1 ∧ src = 0
  | 0x08 | 0x0A => sel ≤ 2
  | 0x09 => True
  | 0x0B => sel = 0
  | _ => False

/-- A word that R97 executes: RSV is 0 and the other fields are legal. -/
def LegalWord (w : Word) : Prop :=
  rsvField w = 0#19 ∧ LegalFields (opcField w).toNat (selField w).toNat (srcField w).toNat

theorem not_legalFields_of_unassigned (opc sel src : Nat) (h : 0x0C ≤ opc) : ¬ LegalFields opc sel src := by
  obtain ⟨k, rfl⟩ := Nat.exists_eq_add_of_le' h
  exact id

/-! ### The decode function (spec/30_encoding.md R97) -/

theorem exists_decodePlain_ok_iff (i : Instr) (sel : BitVec 4) (src : BitVec 1) :
    (∃ j, decodePlain i sel src = .ok j) ↔ sel.toNat = 0 ∧ src.toNat = 0 := by
  unfold decodePlain
  split_ifs with hsel hsrc <;> simp_all [← BitVec.toNat_inj]

theorem exists_decodeBuffer_ok_iff (onT onH : Instr) (sel : BitVec 4) (src : BitVec 1) :
    (∃ j, decodeBuffer onT onH sel src = .ok j) ↔ sel.toNat ≤ 1 ∧ src.toNat = 0 := by
  unfold decodeBuffer
  split
  case h_1 hsel | h_2 hsel => by_cases hsrc : src = 0#1 <;> simp_all [← BitVec.toNat_inj]
  case h_3 h0 h1 =>
    have hsel : ¬ sel.toNat ≤ 1 := by grind
    simp [hsel]

theorem exists_decodeScale_ok_iff (inC inF inK : Src → Instr) (sel : BitVec 4) (src : BitVec 1) :
    (∃ j, decodeScale inC inF inK sel src = .ok j) ↔ sel.toNat ≤ 2 := by
  unfold decodeScale
  split
  case h_1 hsel | h_2 hsel | h_3 hsel => simp [hsel]
  case h_4 h0 h1 h2 =>
    have hsel : ¬ sel.toNat ≤ 2 := by grind
    simp [hsel]

theorem exists_decodeOpcode_ok_iff (opc : BitVec 8) (sel : BitVec 4) (src : BitVec 1) :
    (∃ i, decodeOpcode opc sel src = .ok i) ↔ LegalFields opc.toNat sel.toNat src.toNat := by
  unfold decodeOpcode
  split
  case h_1 h | h_4 h | h_5 h | h_6 h | h_7 h | h_8 h =>
    rw [h, exists_decodePlain_ok_iff]
    rfl
  case h_2 h | h_3 h =>
    rw [h, exists_decodeBuffer_ok_iff]
    rfl
  case h_9 h | h_11 h =>
    rw [h, exists_decodeScale_ok_iff]
    rfl
  case h_10 h => simp [h, LegalFields]
  case h_12 h => by_cases hsel : sel = 0#4 <;> simp_all [LegalFields, ← BitVec.toNat_inj]
  case h_13 =>
    have hopc : 0x0C ≤ opc.toNat := by grind
    simp [not_legalFields_of_unassigned _ _ _ hopc]

/-- The decoder accepts exactly the legal words. -/
theorem exists_decode_ok_iff_legalWord (w : Word) : (∃ i, decode w = .ok i) ↔ LegalWord w := by
  rw [LegalWord, ← exists_decodeOpcode_ok_iff, decode]
  by_cases hrsv : rsvField w = 0#19 <;> simp [hrsv]

theorem decode_error_of_not_legalWord (w : Word) (h : ¬ LegalWord w) : ∃ r, decode w = .error r := by
  cases hd : decode w with
  | error r => exact ⟨r, rfl⟩
  | ok i => exact absurd ((exists_decode_ok_iff_legalWord w).mp ⟨i, hd⟩) h

/-! ### The match/mask table (spec/30_encoding.md R96) -/

/-- A row's match is a match of each field. -/
theorem CommandRow.accepts_iff_fields (r : CommandRow) (w : Word) :
    r.accepts w = true ↔
      rsvField w &&& rsvField r.mask = rsvField r.pattern ∧ opcField w &&& opcField r.mask = opcField r.pattern ∧
        selField w &&& selField r.mask = selField r.pattern ∧ srcField w &&& srcField r.mask = srcField r.pattern := by
  rw [CommandRow.accepts, decide_eq_true_iff, word_eq_iff_fields]
  simp only [rsvField, opcField, selField, srcField, BitVec.extractLsb'_and]

/-- The selectors of AH.SELn: only the top bit of SEL is compared. -/
theorem sel_and_eight_eq_iff (sel : BitVec 4) : sel &&& 8#4 = 8#4 ↔ 8 ≤ sel.toNat := by
  revert sel
  decide

/-- The rows of the table are exactly the legal words: each row is its fields, and the rows of one opcode together are the
selectors and sources legal for it. -/
theorem exists_row_accepts_iff_legalWord (w : Word) : (∃ r ∈ commandRows, r.accepts w = true) ↔ LegalWord w := by
  simp only [commandRows, List.mem_cons, List.not_mem_nil, or_false, exists_eq_or_imp, exists_eq_left,
    CommandRow.accepts_iff_fields, LegalWord]
  generalize rsvField w = rsv, opcField w = opc, selField w = sel, srcField w = src
  have hrsv : rsv &&& 0x7FFFF#19 = rsv := BitVec.and_allOnes
  have hopc : opc &&& 0xFF#8 = opc := BitVec.and_allOnes
  have hsel : sel &&& 0xF#4 = sel := BitVec.and_allOnes
  have hsrc : src &&& 1#1 = src := BitVec.and_allOnes
  simp only [rsvField, opcField, selField, srcField, BitVec.ofNat_eq_ofNat, BitVec.reduceExtractLsb', BitVec.extractLsb'_zero,
    BitVec.and_zero, and_true, hrsv, hopc, hsel, hsrc, sel_and_eight_eq_iff, ← and_or_left]
  refine and_congr_right fun _ => ?_
  simp only [← BitVec.toNat_inj, BitVec.toNat_ofNat]
  generalize opc.toNat = o, sel.toNat = k, src.toNat = s
  rcases Nat.lt_or_ge o 0x0C with hassigned | hunassigned
  · interval_cases o <;> simp [LegalFields] <;> omega
  · have hillegal := not_legalFields_of_unassigned o k s hunassigned
    obtain ⟨m, rfl⟩ := Nat.exists_eq_add_of_le' hunassigned
    simp [hillegal]

end Sys2Proof
end

section
/-! The illegal words of spec/30_encoding.md R98, and the statements about illegal words and pseudo-instructions. -/

namespace Sys2Proof.Machine

/-- The list of spec/30_encoding.md R98 is the complement of R97's legality, opcode by opcode. -/
theorem illegalWord_iff_not_legalWord (w : Word) : IllegalWord w ↔ ¬ LegalWord w := by
  simp only [IllegalWord, LegalWord, ← BitVec.toNat_inj, rsvField_toNat, opcField_toNat, selField_toNat, srcField_toNat,
    BitVec.toNat_ofNat]
  have hsrc : w.toNat / 4096 % 2 < 2 := Nat.mod_lt _ (by decide)
  generalize w.toNat / 8192 = r, w.toNat % 256 = o, w.toNat / 256 % 16 = k, w.toNat / 4096 % 2 = s at *
  rcases Nat.lt_or_ge o 0x0C with hassigned | hunassigned
  · interval_cases o <;> simp [LegalFields] <;> omega
  · simp [not_legalFields_of_unassigned o k s hunassigned, hunassigned]

/-- Settles O6: an illegal word is not legal, so the decoder rejects it and the step raises IllegalCommand; and the rows of
the table are the legal words. -/
theorem illegalWordsSetErrAndNothingElse : Obligations.IllegalWordsSetErrAndNothingElse := by
  refine ⟨fun s w rest hw => ?_, fun w => ?_⟩
  · obtain ⟨r, hr⟩ := decode_error_of_not_legalWord w ((illegalWord_iff_not_legalWord w).mp hw)
    rw [commandWrite_eq, step_facing_cmd_write, runCommand_of_error w r _ hr]
    rfl
  · rw [illegalWord_iff_not_legalWord, not_not, exists_row_accepts_iff_legalWord]

/-- CRC_OK is bit 0 of STATUS (spec/10_state.md R23). -/
theorem Status.toWord_getLsbD_zero (st : Status) : st.toWord.getLsbD 0 = st.crcOk := by
  simp only [Status.toWord, BitVec.getLsbD_append, flagBit]
  simp

/-- Settles O58: each expansion evaluates, for every operand, to the transactions of its row of R102. -/
theorem pseudoInstructionsExpand : Obligations.PseudoInstructionsExpand :=
  ⟨fun s => s.status.toWord_getLsbD_zero, fun _ _ _ _ _ _ => rfl, fun _ _ _ _ _ _ => rfl, fun _ _ _ => rfl, fun _ _ => rfl,
    fun _ _ => rfl, fun _ _ => rfl, rfl, rfl, rfl⟩

end Sys2Proof.Machine
end

section
/-! Rounding, saturation and the constant ROM (spec/40_numerics.md): the laws of `rnd32` and of the clamp, and the statements
about them. -/

namespace Sys2Proof.Machine

/-! ### Rounding (R121) -/

/-- `rnd32` as the arithmetic shift of R121. -/
theorem rnd32_eq_shiftRight (n : Int) : rnd32 n = (n + 2 ^ 31) >>> (32 : Nat) := by
  rw [rnd32, Int.shiftRight_eq_div_pow]
  rfl

/-- No multiple of 2^32 is nearer: `rnd32` is within half a unit, and every other multiple is at least half a unit away. -/
theorem rnd32_nearest (n k : Int) : (n - 2 ^ 32 * rnd32 n).natAbs ≤ (n - 2 ^ 32 * k).natAbs := by
  obtain ⟨hlow, hhigh⟩ := rnd32_bounds n
  rcases lt_trichotomy k (rnd32 n) with hbelow | rfl | habove
  · omega
  · rfl
  · omega

/-- A tie goes toward +infinity. -/
theorem rnd32_tie (k : Int) : rnd32 (2 ^ 32 * k + 2 ^ 31) = k + 1 := by
  have hbounds := rnd32_bounds (2 ^ 32 * k + 2 ^ 31)
  omega

/-- Settles O8: the floor's two inequalities give the nearest multiple and the tie; the shift is the same floor. -/
theorem roundingIsNearestTiesUp : Obligations.RoundingIsNearestTiesUp :=
  ⟨rnd32_bounds, rnd32_eq_shiftRight, rnd32_nearest, rnd32_tie, by decide, by decide, by decide, by decide⟩

/-! ### Saturation (R123, R131) -/

/-- Above the FX range: the upper bound, with overflow. -/
theorem sat64_of_gt (n : Int) (h : n > 2 ^ 63 - 1) : sat64 n = ⟨0x7FFFFFFFFFFFFFFF, true⟩ := by
  rw [sat64, if_pos (by simpa [fxMax] using h)]
  rfl

/-- Below the FX range: the lower bound, with overflow. -/
theorem sat64_of_lt (n : Int) (h : n < -2 ^ 63) : sat64 n = ⟨0x8000000000000000, true⟩ := by
  have hmax : ¬ n > fxMax := by
    simp only [fxMax]
    omega
  rw [sat64, if_neg hmax, if_pos (by simpa [fxMin] using h)]
  rfl

/-- What `sat64` answers, as integers: the value clamped to the FX range, and overflow exactly outside it. -/
theorem sat64_clamps (n : Int) :
    fxInt (sat64 n).value = max (-2 ^ 63) (min (2 ^ 63 - 1) n) ∧
      ((sat64 n).ovf = true ↔ n > 2 ^ 63 - 1 ∨ n < -2 ^ 63) := by
  rcases lt_or_ge (2 ^ 63 - 1) n with habove | hle
  · have hvalue : fxInt 0x7FFFFFFFFFFFFFFF = 2 ^ 63 - 1 := by decide
    rw [sat64_of_gt n habove, hvalue]
    exact ⟨by omega, iff_of_true rfl (.inl habove)⟩
  · rcases lt_or_ge n (-2 ^ 63) with hbelow | hge
    · have hvalue : fxInt 0x8000000000000000 = -2 ^ 63 := by decide
      rw [sat64_of_lt n hbelow, hvalue]
      exact ⟨by omega, iff_of_true rfl (.inr hbelow)⟩
    · obtain ⟨hovf, hvalue⟩ := sat64_in_range n hge hle
      rw [hovf, hvalue]
      exact ⟨by omega, iff_of_false Bool.false_ne_true (by omega)⟩

/-- A clamped integer is no further from the integer than any FX value. -/
theorem sat64_nearest (n : Int) (v : Fx) : (n - fxInt (sat64 n).value).natAbs ≤ (n - fxInt v).natAbs := by
  have hv := fxInt_range v
  rw [(sat64_clamps n).1]
  omega

/-- Settles O9: the three cases of `sat64`, the clamp's distance, and the sticky OVF of both writes of results. -/
theorem saturationClampsToTheFxRange : Obligations.SaturationClampsToTheFxRange := by
  refine ⟨sat64_of_gt, sat64_of_lt, sat64_in_range, sat64_nearest, fun s r hr => ?result, fun s t h hth => ?reading⟩
  case result => simp [hr]
  case reading => rcases hth with ht | hh <;> simp [*]

/-! ### Multiply-accumulate and saturating add (R124, R125) -/

/-- Settles O10: `mac` and `addsat` are one `sat64` of the exact sum, so each clause is the clamp's. -/
theorem macAndAddsatClampTheExactSum : Obligations.MacAndAddsatClampTheExactSum :=
  ⟨fun a b c => sat64_clamps (rnd32 (fxInt a * fxInt b) + fxInt c), fun _ _ => rfl,
    fun a b => ⟨rfl, (sat64_clamps (fxInt a + fxInt b)).1⟩⟩

/-! ### The constant ROM (R127) -/

/-- Settles O12: each pattern of the ROM and each quantised literal evaluates to the listed value. -/
theorem constantRomIsTheQuantisedLiterals : Obligations.ConstantRomIsTheQuantisedLiterals := by
  unfold Obligations.ConstantRomIsTheQuantisedLiterals
  decide

end Sys2Proof.Machine
end

section
/-! The checksum (spec/41_checksum.md): the CRC register as an iterated shift and as numbers, and the statements about `crc8`
and CRC_GEN. -/

namespace Sys2Proof.Machine

/-! ### The CRC register (R150) -/

/-- Repeating the shift is iterating it. -/
theorem crcShifts_eq_iterate (n : Nat) (r : Byte) : crcShifts n r = crcShift^[n] r := by
  induction n generalizing r with
  | zero => rfl
  | succ n ih => exact ih (crcShift r)

/-- One shift of R150's register, on its value as a number. -/
def crcShiftNat (q : Nat) : Nat := if 128 ≤ q then ((q * 2) ^^^ 0x31) % 256 else (q * 2) % 256

/-- The high bit of a byte is its comparison with 128. -/
theorem getLsbD_seven_iff (r : Byte) : r.getLsbD 7 = true ↔ 128 ≤ r.toNat := by
  rw [show r.getLsbD 7 = r.msb from (BitVec.msb_eq_getLsbD_last r).symm, BitVec.msb_eq_decide, decide_eq_true_iff]

theorem toNat_shiftLeft_one (r : Byte) : (r <<< 1).toNat = r.toNat * 2 % 256 := by
  rw [BitVec.toNat_shiftLeft, Nat.shiftLeft_eq]

/-- The model's shift and the one on numbers agree: XOR with the polynomial commutes with reduction mod 256. -/
theorem toNat_crcShift : Function.Semiconj BitVec.toNat crcShift crcShiftNat := by
  intro r
  rw [crcShift, crcShiftNat]
  by_cases hhigh : r.getLsbD 7 = true
  · have hxor : (r.toNat * 2 ^^^ 0x31) % 2 ^ 8 = r.toNat * 2 % 2 ^ 8 ^^^ 0x31 := Nat.xor_mod_two_pow
    rw [if_pos hhigh, if_pos ((getLsbD_seven_iff r).mp hhigh), BitVec.toNat_xor, toNat_shiftLeft_one]
    exact hxor.symm
  · rw [if_neg hhigh, if_neg (mt (getLsbD_seven_iff r).mpr hhigh), toNat_shiftLeft_one]

/-- Taking in a byte: XOR, then eight shifts of the number. -/
theorem toNat_crcByte (r b : Byte) : (crcByte r b).toNat = crcShiftNat^[8] (r.toNat ^^^ b.toNat) := by
  rw [crcByte, crcShifts_eq_iterate, toNat_crcShift.iterate_right 8, BitVec.toNat_xor]

/-! ### The vectors of R150 and R151, sixteen shifts each -/

/-- The reference test vector (R150). -/
theorem crc8_reference : crc8 0xBE 0xEF = 0x92 := by
  simp [crc8, crcByte, crcShifts, crcShift]

/-- A group of zero bytes (R151). -/
theorem crc8_zeros : crc8 0x00 0x00 = 0x81 := by
  simp [crc8, crcByte, crcShifts, crcShift]

/-- A group of all-ones bytes (R151). -/
theorem crc8_ones : crc8 0xFF 0xFF = 0xAC := by
  simp [crc8, crcByte, crcShifts, crcShift]

/-! ### CRC_GEN (R151) -/

/-- CRC_GEN of a group writes its CRC to CRC_OUT and keeps every other field. -/
theorem crcGen_eq (g : SensorGroup) (s : State) : crcGen g s = { s with crcOut := crc8 g.msb g.lsb } := rfl

theorem exec_crcGenT (s : State) : exec .crcGenT s = .next (crcGen s.mbufT s) := rfl

theorem exec_crcGenH (s : State) : exec .crcGenH s = .next (crcGen s.mbufH s) := rfl

/-! ### The statements -/

/-- Settles O14: both bytes are taken in as numbers, and a fold that ignores the list's elements is an iteration. -/
theorem crcIsTheShiftRegister : Obligations.CrcIsTheShiftRegister := by
  refine ⟨fun b0 b1 => ?_, crc8_reference⟩
  have hshifts (q : Nat) : (List.range 8).foldl (fun q _ => crcShiftNat q) q = crcShiftNat^[8] q := by
    rw [List.foldl_const, List.length_range]
  calc (crc8 b0 b1).toNat
      = crcShiftNat^[8] (crcShiftNat^[8] (0xFF ^^^ b0.toNat) ^^^ b1.toNat) := by
        rw [crc8, toNat_crcByte, toNat_crcByte, BitVec.toNat_ofNat]
    _ = [b0.toNat, b1.toNat].foldl (fun r b => (List.range 8).foldl (fun q _ => crcShiftNat q) (r ^^^ b)) 0xFF := by
        simp only [List.foldl_cons, List.foldl_nil, hshifts]

/-- Settles O16: both forms are `crcGen` of their own buffer; the register rules hold by definition, the encodings are decoded
by their opcode, and the three vectors evaluate. -/
theorem crcGenWritesCrcOutOnly : Obligations.CrcGenWritesCrcOutOnly := by
  refine ⟨fun s => ?genT, fun s => ?genH, fun _ => rfl, fun _ _ => rfl, fun _ _ => rfl,
    decode_assemble 0x01 0 0, decode_assemble 0x01 1 0, crc8_zeros, crc8_ones, crc8_reference⟩
  case genT => rw [exec_crcGenT, crcGen_eq]
  case genH => rw [exec_crcGenH, crcGen_eq]

end Sys2Proof.Machine
end

section
/-! The conversions of raw words (spec/42_conversion.md): their exact integers, and the statements about them and about CONV_T
and CONV_H. -/

namespace Sys2Proof.Machine

/-! ### The exact integers (R160, R161; spec/40_numerics.md R128) -/

/-- The slope times any 16-bit word, less the offset, is within the FX range, so narrowing to 64 bits loses nothing. -/
theorem fxInt_convT (r : Raw) : fxInt (convT r) = r.toNat * 0x00AF00B4 - 45 * 2 ^ 32 := by
  have hr : r.toNat < 2 ^ 16 := r.isLt
  have hslope : fxInt constKT = 0x00AF00B4 := by decide
  have hoffset : fxInt const45 = 45 * 2 ^ 32 := by decide
  rw [convT, hslope, hoffset]
  exact fxInt_fxOfInt _ (by omega) (by omega)

/-- The slope times any 16-bit word is within the FX range, so narrowing to 64 bits loses nothing. -/
theorem fxInt_convH (r : Raw) : fxInt (convH r) = r.toNat * 0x0064005B := by
  have hr : r.toNat < 2 ^ 16 := r.isLt
  have hslope : fxInt constKH = 0x0064005B := by decide
  rw [convH, hslope]
  exact fxInt_fxOfInt _ (by omega) (by omega)

/-- An FX pattern is the conversion of `r` exactly when it stands for the integer of R160. -/
theorem convT_eq_iff (r : Raw) (v : Fx) : convT r = v ↔ r.toNat * 0x00AF00B4 - 45 * 2 ^ 32 = fxInt v := by
  rw [← fxInt_convT, BitVec.toInt_inj]

/-- An FX pattern is the conversion of `r` exactly when it stands for the integer of R161. -/
theorem convH_eq_iff (r : Raw) (v : Fx) : convH r = v ↔ r.toNat * 0x0064005B = fxInt v := by
  rw [← fxInt_convH, BitVec.toInt_inj]

/-! ### The end points (R160, R161) -/

theorem convT_zero : convT 0 = 0xFFFFFFD300000000 := (convT_eq_iff _ _).mpr (by decide)

theorem convT_ones : convT 0xFFFF = 0x000000820004FF4C := (convT_eq_iff _ _).mpr (by decide)

theorem convH_zero : convH 0 = 0 := (convH_eq_iff _ _).mpr (by decide)

theorem convH_ones : convH 0xFFFF = 0x00000063FFF6FFA5 := (convH_eq_iff _ _).mpr (by decide)

/-! ### CONV_T and CONV_H (R162, R163) -/

/-- CONV_T writes the conversion of its raw word to RES and keeps every other field. -/
theorem exec_convT (s : State) : exec .convT s = .next { s with res := convT s.mbufT.raw } := by
  rw [← State.writeResult_exact]
  rfl

/-- CONV_H writes the conversion of its raw word to RES and keeps every other field. -/
theorem exec_convH (s : State) : exec .convH s = .next { s with res := convH s.mbufH.raw } := by
  rw [← State.writeResult_exact]
  rfl

/-! ### The statements -/

/-- Settles O19: both conversions are linear in a raw word of at most 16 bits, so their exact integers bound them. -/
theorem convertersAreExact : Obligations.ConvertersAreExact := by
  refine ⟨fun r => ?temperature, fun r => ?humidity, convT_zero, convT_ones, convH_zero, convH_ones⟩
  all_goals have hr : r.toNat < 2 ^ 16 := r.isLt
  case temperature =>
    have hexact : (convT r).toInt = _ := fxInt_convT r
    exact ⟨hexact, by omega, by omega⟩
  case humidity =>
    have hexact : (convH r).toInt = _ := fxInt_convH r
    exact ⟨hexact, by omega, by omega⟩

/-- Settles O20: each command writes the conversion of its own buffer's two data bytes, the encodings are decoded by their
opcode, and the examples are instances of the exact formulas. -/
theorem convWritesResOnly : Obligations.ConvWritesResOnly :=
  ⟨exec_convT, exec_convH, decode_assemble 0x03 0 0, decode_assemble 0x04 0 0,
    convT_zero, convT_ones, (convT_eq_iff _ _).mpr (by decide),
    convH_zero, convH_ones, (convH_eq_iff _ _).mpr (by decide), (convH_eq_iff _ _).mpr (by decide)⟩

end Sys2Proof.Machine
end

section
/-! Calibration (spec/43_calibration.md): CAL_T and CAL_H as one `mac` each, what a change of one channel's factors leaves alone,
and the statements about both. -/

namespace Sys2Proof.Machine

/-! ### The calibration arithmetic (R173) -/

/-- A factor of 1.0 rounds nothing away, so only the saturating add is left. -/
theorem mac_constOne (x c : Fx) : mac x constOne c = addsat x c := by
  have hone : fxInt constOne = 2 ^ 32 := by decide
  rw [mac, hone, rnd32_exact, addsat]

theorem addsat_zero (x : Fx) : addsat x 0 = .exact x := by
  rw [addsat, fxInt_zero, add_zero, sat64_fxInt, SatFx.exact]

/-! ### CAL_T and CAL_H (R171, R172) -/

theorem exec_calT (s : State) : exec .calT s = .next (s.writeResult (mac s.opa s.caltF s.caltS)) := rfl

theorem exec_calH (s : State) : exec .calH s = .next (s.writeResult (mac s.opa s.calhF s.calhS)) := rfl

/-- With the identity factors a calibration writes its input bit for bit and reports no overflow. -/
theorem State.writeResult_mac_identity (s : State) (x factor shift : Fx) (hfactor : factor = constOne) (hshift : shift = 0) :
    s.writeResult (mac x factor shift) = { s with res := x } := by
  rw [hfactor, hshift, mac_constOne, addsat_zero, State.writeResult_exact]

/-! ### The two channels (R174) -/

/-- A channel of the sensor, with its own pair of calibration factors. -/
inductive Channel where
  | temperature
  | humidity

/-- The command that applies the channel's factors to OPA. -/
def Channel.calCommand (c : Channel) : Instr :=
  match c with
  | .temperature => .calT
  | .humidity => .calH

/-- The channel's own calibration function. -/
def Channel.calibrated (c : Channel) (s : State) (v : Fx) : SatFx :=
  match c with
  | .temperature => calibrateT s v
  | .humidity => calibrateH s v

/-- The conversion of the channel's buffered raw word. -/
def Channel.converted (c : Channel) (s : State) : Fx :=
  match c with
  | .temperature => convT s.mbufT.raw
  | .humidity => convH s.mbufH.raw

/-- The register that caches the channel's reading. -/
def Channel.cached (c : Channel) (s : State) : Fx :=
  match c with
  | .temperature => s.temp
  | .humidity => s.rh

/-- The state with other calibration factors in one channel. -/
def State.setFactors (s : State) (c : Channel) (f g : Fx) : State :=
  match c with
  | .temperature => { s with caltF := f, caltS := g }
  | .humidity => { s with calhF := f, calhS := g }

theorem exec_calCommand (c : Channel) (s : State) :
    exec c.calCommand s = .next (s.writeResult (c.calibrated s s.opa)) := by
  cases c <;> rfl

/-- FRAME caches the channel's calibrated conversion when both groups are good, and otherwise keeps the cached value. -/
theorem Channel.cached_frameEffect (c : Channel) (s : State) :
    c.cached (frameEffect s) =
      if s.mbufT.good && s.mbufH.good then (c.calibrated s (c.converted s)).value else c.cached s := by
  cases hgood : s.mbufT.good && s.mbufH.good with
  | true =>
    obtain ⟨ht, hh⟩ := Bool.and_eq_true_iff.mp hgood
    rw [if_pos rfl]
    cases c with
    | temperature => exact frameEffect_temp_of_good s ht hh
    | humidity => exact frameEffect_rh_of_good s ht hh
  | false =>
    rw [frameEffect_of_bad s (Bool.and_eq_false_iff.mp hgood), if_neg Bool.false_ne_true]
    cases c <;> rfl

/-! ### What a change of one channel's factors leaves alone -/

section
variable (s : State) (c : Channel) (f g : Fx)

@[simp] theorem State.setFactors_cfg : (s.setFactors c f g).cfg = s.cfg := by cases c <;> rfl
@[simp] theorem State.setFactors_mbufT : (s.setFactors c f g).mbufT = s.mbufT := by cases c <;> rfl
@[simp] theorem State.setFactors_mbufH : (s.setFactors c f g).mbufH = s.mbufH := by cases c <;> rfl
@[simp] theorem State.setFactors_opa : (s.setFactors c f g).opa = s.opa := by cases c <;> rfl

@[simp] theorem tIn_setFactors (src : Src) : tIn src (s.setFactors c f g) = tIn src s := by
  cases c <;> cases src <;> rfl

@[simp] theorem hIn_setFactors (src : Src) : hIn src (s.setFactors c f g) = hIn src s := by
  cases c <;> cases src <;> rfl

@[simp] theorem ahMmHg_setFactors (t h : Fx) : ahMmHg (s.setFactors c f g) t h = ahMmHg s t h := by
  cases c <;> rfl

@[simp] theorem ahEstimate_setFactors (src : Src) : ahEstimate src (s.setFactors c f g) = ahEstimate src s := by
  simp [ahEstimate]

@[simp] theorem ahInUnit_setFactors (unit : Fx) (src : Src) : ahInUnit unit src (s.setFactors c f g) = ahInUnit unit src s := by
  simp [ahInUnit]

@[simp] theorem Channel.converted_setFactors (d : Channel) : d.converted (s.setFactors c f g) = d.converted s := by
  cases d <;> simp [Channel.converted]

@[simp] theorem Channel.cached_setFactors (d : Channel) : d.cached (s.setFactors c f g) = d.cached s := by
  cases c <;> cases d <;> rfl

theorem State.writeResult_setFactors (r : SatFx) :
    (s.setFactors c f g).writeResult r = (s.writeResult r).setFactors c f g := by
  cases c <;> rfl

theorem crcGen_setFactors (b : SensorGroup) : crcGen b (s.setFactors c f g) = (crcGen b s).setFactors c f g := by
  cases c <;> rfl

theorem crcChk_setFactors (b : SensorGroup) : crcChk b (s.setFactors c f g) = (crcChk b s).setFactors c f g := by
  cases c <;> rfl

end

/-- A channel's calibration does not read the other channel's factors. -/
theorem Channel.calibrated_setFactors_of_ne (d c : Channel) (h : d ≠ c) (s : State) (f g v : Fx) :
    d.calibrated (s.setFactors c f g) v = d.calibrated s v := by
  cases d with
  | temperature =>
    cases c with
    | temperature => exact absurd rfl h
    | humidity => rfl
  | humidity =>
    cases c with
    | temperature => rfl
    | humidity => exact absurd rfl h

/-- What FRAME caches for a channel does not depend on the other channel's factors. -/
theorem Channel.cached_frameEffect_setFactors_of_ne (d c : Channel) (h : d ≠ c) (s : State) (f g : Fx) :
    d.cached (frameEffect (s.setFactors c f g)) = d.cached (frameEffect s) := by
  simp [Channel.cached_frameEffect, d.calibrated_setFactors_of_ne c h]

/-- Changing the channel's factors changes nothing but the factors in what the command does. -/
def IgnoresFactors (c : Channel) (i : Instr) : Prop :=
  ∀ (s : State) (f g : Fx), ∃ t, exec i s = .next t ∧ exec i (s.setFactors c f g) = .next (t.setFactors c f g)

/-- A command ignores the factors when its effect commutes with setting them. -/
theorem ignoresFactors_of_effect (c : Channel) (i : Instr) (e : State → State) (hexec : ∀ s, exec i s = .next (e s))
    (he : ∀ s f g, e (s.setFactors c f g) = (e s).setFactors c f g) : IgnoresFactors c i :=
  fun s f g => ⟨e s, hexec s, by rw [hexec, he]⟩

/-- A command that writes a result to RES ignores the factors its result does not depend on. -/
theorem ignoresFactors_of_result (c : Channel) (i : Instr) (r : State → SatFx)
    (hexec : ∀ s, exec i s = .next (s.writeResult (r s))) (hr : ∀ s f g, r (s.setFactors c f g) = r s) :
    IgnoresFactors c i :=
  ignoresFactors_of_effect c i _ hexec fun s f g => by rw [hr, State.writeResult_setFactors]

/-- The calibration command of one channel ignores the other channel's factors. -/
theorem ignoresFactors_calCommand (d c : Channel) (h : d ≠ c) : IgnoresFactors c d.calCommand :=
  ignoresFactors_of_result c _ _ (exec_calCommand d) fun s f g => by
    rw [d.calibrated_setFactors_of_ne c h, State.setFactors_opa]

/-- Only the channel's own calibration command and FRAME depend on a channel's factors. -/
theorem ignoresFactors_of_ne (c : Channel) (i : Instr) (hcal : i ≠ c.calCommand) (hframe : i ≠ .frame) :
    IgnoresFactors c i := by
  cases i with
  | nop => exact ignoresFactors_of_effect c _ _ (fun _ => rfl) fun _ _ _ => rfl
  | crcGenT | crcGenH => exact ignoresFactors_of_effect c _ _ (fun _ => rfl) (by simp [crcGen_setFactors])
  | crcChkT | crcChkH => exact ignoresFactors_of_effect c _ _ (fun _ => rfl) (by simp [crcChk_setFactors])
  | frame => exact absurd rfl hframe
  | calT => exact ignoresFactors_calCommand .temperature c fun h => hcal (h ▸ rfl)
  | calH => exact ignoresFactors_calCommand .humidity c fun h => hcal (h ▸ rfl)
  | convT | convH | getTC | getTF | getTK | ahMmhg | ahTorr | ahPa | ahBar | ahAt | ahAtm | ahMh2o | ahPsi | ahSel
  | tolTC | tolTF | tolTK | tolH => exact ignoresFactors_of_result c _ _ (fun _ => rfl) (by simp)

/-! ### The statements -/

/-- Settles O25: no command outside the exceptions reads the factors, and FRAME's cached value of a channel is a calibration by
that channel's own factors. -/
theorem channelsAreIndependent : Obligations.ChannelsAreIndependent :=
  ⟨fun i s f g hcal hframe => ignoresFactors_of_ne .humidity i hcal hframe s f g,
    fun i s f g hcal hframe => ignoresFactors_of_ne .temperature i hcal hframe s f g,
    fun s f g => ⟨_, _, rfl, rfl, Channel.cached_frameEffect_setFactors_of_ne .temperature .humidity nofun s f g⟩,
    fun s f g => ⟨_, _, rfl, rfl, Channel.cached_frameEffect_setFactors_of_ne .humidity .temperature nofun s f g⟩⟩

/-- Settles O23: both commands write one `mac` of OPA, the identity factors make it a copy, the encodings are decoded by their
opcode, and the corner cases and examples evaluate. -/
theorem calAppliesTheChannelFactors : Obligations.CalAppliesTheChannelFactors := by
  refine ⟨exec_calT, exec_calH, fun s hfactor hshift => ?identityT, fun s hfactor hshift => ?identityH,
    decode_assemble 0x05 0 0, decode_assemble 0x06 0 0, by decide, by decide, by decide, by decide, by decide, by decide⟩
  case identityT => rw [exec_calT, s.writeResult_mac_identity s.opa _ _ hfactor hshift]
  case identityH => rw [exec_calH, s.writeResult_mac_identity s.opa _ _ hfactor hshift]

end Sys2Proof.Machine
end

section
/-! A word that decodes is the encoding of its command (spec/30_encoding.md R97, R100), once per shape of row: so each command
without an operand source is issued by one word only. -/

namespace Sys2Proof

theorem eq_ofNat_of_toNat {n k : Nat} {x : BitVec n} (h : x.toNat = k) : x = BitVec.ofNat n k := by
  simp [← h]

theorem encode_of_decodePlain (i j : Instr) (opc : BitVec 8) (sel : BitVec 4) (src : BitVec 1)
    (hi : encode i = assemble opc 0 0) (h : decodePlain i sel src = .ok j) : encode j = assemble opc sel src := by
  unfold decodePlain at h
  split_ifs at h with hsel hsrc
  cases h
  rw [hi, not_not.mp hsel, not_not.mp hsrc]
  rfl

theorem encode_of_decodeBuffer (onT onH j : Instr) (opc : BitVec 8) (sel : BitVec 4) (src : BitVec 1)
    (hT : encode onT = assemble opc 0 0) (hH : encode onH = assemble opc 1 0)
    (h : decodeBuffer onT onH sel src = .ok j) : encode j = assemble opc sel src := by
  unfold decodeBuffer at h
  split at h
  case h_1 hsel | h_2 hsel =>
    obtain rfl := eq_ofNat_of_toNat hsel
    split_ifs at h with hsrc
    cases h
    simp only [hT, hH, not_not.mp hsrc]
    rfl
  case h_3 => cases h

theorem encode_of_decodeScale (inC inF inK : Src → Instr) (j : Instr) (opc : BitVec 8) (sel : BitVec 4) (src : BitVec 1)
    (hC : ∀ x : Src, encode (inC x) = assemble opc 0 x.bit) (hF : ∀ x : Src, encode (inF x) = assemble opc 1 x.bit)
    (hK : ∀ x : Src, encode (inK x) = assemble opc 2 x.bit) (h : decodeScale inC inF inK sel src = .ok j) :
    encode j = assemble opc sel src := by
  unfold decodeScale at h
  split at h
  case h_1 hsel | h_2 hsel | h_3 hsel =>
    obtain rfl := eq_ofNat_of_toNat hsel
    cases h
    simp only [hC, hF, hK, bit_srcOfBit]
    rfl
  case h_4 => cases h

theorem encode_decodeAh (sel : BitVec 4) (src : Src) : encode (decodeAh sel src) = assemble 0x09#8 sel src.bit := by
  cases src <;> (revert sel; decide)

theorem encode_of_decodeOpcode (opc : BitVec 8) (sel : BitVec 4) (src : BitVec 1) (i : Instr)
    (h : decodeOpcode opc sel src = .ok i) : encode i = assemble opc sel src := by
  unfold decodeOpcode at h
  split at h
  case h_1 hopc | h_4 hopc | h_5 hopc | h_6 hopc | h_7 hopc | h_8 hopc =>
    obtain rfl := eq_ofNat_of_toNat hopc
    exact encode_of_decodePlain _ i _ sel src rfl h
  case h_2 hopc | h_3 hopc =>
    obtain rfl := eq_ofNat_of_toNat hopc
    exact encode_of_decodeBuffer _ _ i _ sel src rfl rfl h
  case h_9 hopc | h_11 hopc =>
    obtain rfl := eq_ofNat_of_toNat hopc
    exact encode_of_decodeScale _ _ _ i _ sel src (fun _ => rfl) (fun _ => rfl) (fun _ => rfl) h
  case h_10 hopc =>
    cases h
    rw [eq_ofNat_of_toNat hopc, encode_decodeAh, bit_srcOfBit]
  case h_12 hopc =>
    split_ifs at h with hsel
    cases h
    rw [eq_ofNat_of_toNat hopc, not_not.mp hsel, encode, bit_srcOfBit]
  case h_13 => cases h

/-- The decoder accepts a word only as the encoding of the command it answers. -/
theorem encode_of_decode (w : Word) (i : Instr) (h : decode w = .ok i) : encode i = w := by
  obtain ⟨hrsv, hopc⟩ := decode_ok w i h
  rw [encode_of_decodeOpcode _ _ _ i hopc, assemble_fields w hrsv]

end Sys2Proof
end

section
/-! FRAME (spec/44_frame.md): its checks and its cached values, what writes TEMP and RH, and the statements about both. -/

namespace Sys2Proof.Machine

/-! ### What FRAME records and caches (R180 to R182, R185) -/

theorem exec_frame (s : State) : exec .frame s = .next (frameEffect s) := rfl

/-- FRAME records the two checks and their conjunction, whichever way they come out (R180). -/
theorem frameEffect_checks (s : State) :
    (frameEffect s).status.tOk = s.mbufT.good ∧ (frameEffect s).status.hOk = s.mbufH.good ∧
      (frameEffect s).status.upd = (s.mbufT.good && s.mbufH.good) := by
  cases hgood : s.mbufT.good && s.mbufH.good with
  | true =>
    obtain ⟨ht, hh⟩ := Bool.and_eq_true_iff.mp hgood
    simp [frameEffect_status_of_good s ht hh, ht, hh]
  | false => simp [frameEffect_of_bad s (Bool.and_eq_false_iff.mp hgood), hgood]

theorem frameEffect_valid_of_good (s : State) (ht : s.mbufT.good = true) (hh : s.mbufH.good = true) :
    (frameEffect s).status.valid = true := by
  simp [frameEffect_status_of_good s ht hh]

/-- OVF after an accepted FRAME: set if either calibration saturated, and otherwise kept (spec/40_numerics.md R131). -/
theorem frameEffect_ovf_of_good (s : State) (ht : s.mbufT.good = true) (hh : s.mbufH.good = true) :
    (frameEffect s).status.ovf = (s.status.ovf || ((frameTemperature s).ovf || (frameHumidity s).ovf)) := by
  simp [frameEffect_status_of_good s ht hh]

/-- What FRAME would cache, as the one saturation of the exact sum (R180; spec/40_numerics.md R124). -/
theorem frameTemperature_eq_sat64 (s : State) :
    frameTemperature s = sat64 (rnd32 (fxInt (convT s.mbufT.raw) * fxInt s.caltF) + fxInt s.caltS) := rfl

theorem frameHumidity_eq_sat64 (s : State) :
    frameHumidity s = sat64 (rnd32 (fxInt (convH s.mbufH.raw) * fxInt s.calhF) + fxInt s.calhS) := rfl

/-! ### What keeps TEMP and RH (spec/10_state.md R33, R37) -/

/-- TEMP and RH hold the same values in both states. -/
def State.SameCache (s t : State) : Prop := t.temp = s.temp ∧ t.rh = s.rh

theorem State.sameCache_hostSetFx (s : State) (r : FxReg) (v : Fx) : s.SameCache (s.hostSetFx r v) := by
  cases r <;> exact ⟨rfl, rfl⟩

/-- The host cannot write the cached state. -/
theorem State.sameCache_writeWord (s : State) (b : BusWord) (v : Word) : s.SameCache (s.writeWord b v) := by
  cases b with
  | lo r | hi r => exact s.sameCache_hostSetFx r _
  | id | cmd | status | cfg | mbufT | mbufH | crcOut | reserved => exact ⟨rfl, rfl⟩

theorem State.sameCache_frameEffect_of_bad (s : State) (h : s.mbufT.good = false ∨ s.mbufH.good = false) :
    s.SameCache (frameEffect s) := by
  rw [frameEffect_of_bad s h]
  exact ⟨rfl, rfl⟩

/-- A command other than FRAME keeps the cached state. -/
theorem State.sameCache_exec_of_ne_frame (i : Instr) (s t : State) (hne : i ≠ .frame) (h : exec i s = .next t) :
    s.SameCache t := by
  rcases exec_cases i s with ⟨_, hnop⟩ | ⟨g, _, hgen⟩ | ⟨g, _, hchk⟩ | ⟨hframe, _⟩ | ⟨r, _, hres⟩
  · cases hnop.symm.trans h
    exact ⟨rfl, rfl⟩
  · cases hgen.symm.trans h
    exact ⟨rfl, rfl⟩
  · cases hchk.symm.trans h
    exact ⟨rfl, rfl⟩
  · exact absurd hframe hne
  · cases hres.symm.trans h
    exact ⟨rfl, rfl⟩

/-- A command that changes the cached state is a FRAME with two good groups (R182, R183). -/
theorem exec_cache_changed (i : Instr) (s t : State) (h : exec i s = .next t) (hne : ¬ s.SameCache t) :
    i = .frame ∧ s.mbufT.good = true ∧ s.mbufH.good = true ∧ t = frameEffect s := by
  by_cases hi : i = .frame
  · subst hi
    cases (exec_frame s).symm.trans h
    have hgood : ¬ (s.mbufT.good = false ∨ s.mbufH.good = false) := fun hbad => hne (s.sameCache_frameEffect_of_bad hbad)
    simp only [not_or, Bool.not_eq_false] at hgood
    obtain ⟨ht, hh⟩ := hgood
    exact ⟨rfl, ht, hh, rfl⟩
  · exact absurd (State.sameCache_exec_of_ne_frame i s t hi h) hne

/-- A step that changes the cached state serves a reset or the word of FRAME, with two good groups in the buffers. -/
theorem step_cache_changed (s t : State) (h : step s = .next t) (hne : ¬ s.SameCache t) :
    ∃ e rest, s.host = e :: rest ∧
      (e.assertsReset ∨
        (s.acceptsWrite e .cmd 0x00000007 ∧ s.mbufT.good = true ∧ s.mbufH.good = true ∧
          t = (frameEffect { s with host := rest, cmd := 0x00000007 }).giveAnswer (.write .okay))) := by
  rcases step_next_cases s t h with ⟨_, rfl⟩ | ⟨e, rest, he, hcase⟩
  · exact absurd ⟨rfl, rfl⟩ hne
  refine ⟨e, rest, he, ?_⟩
  rcases hcase with ⟨hr, _⟩ | ⟨a, b, rfl, _⟩ | ⟨v, off, _, _, rfl⟩ | ⟨v, _, _, rfl⟩ | ⟨v, i, u, ha, hd, hu, rfl⟩
  · exact .inl hr
  · exact absurd ⟨rfl, rfl⟩ hne
  · exact absurd (State.sameCache_writeWord { s with host := rest } (busWord off) v) hne
  · exact absurd ⟨rfl, rfl⟩ hne
  · obtain ⟨rfl, ht, hh, rfl⟩ := exec_cache_changed i _ u hu hne
    obtain rfl : (0x00000007 : Word) = v := encode_of_decode v .frame hd
    exact .inr ⟨ha, ht, hh, rfl⟩

/-! ### The statements -/

/-- Settles O31: only FRAME's own word reaches the cached state, and what it leaves there is what `frameEffect` caches; the
event's removal and the stored word are not among FRAME's inputs. -/
theorem cachedStateChangesOnlyInAnAcceptedFrame : Obligations.CachedStateChangesOnlyInAnAcceptedFrame := by
  intro s t hstep hchanged
  have hne : ¬ s.SameCache t := fun ⟨htemp, hrh⟩ => hchanged.elim (· htemp) (· hrh)
  obtain ⟨e, rest, he, hreset | ⟨ha, ht, hh, rfl⟩⟩ := step_cache_changed s t hstep hne
  · exact ⟨e, rest, he, .inl hreset⟩
  obtain ⟨_, _, hupd⟩ := frameEffect_checks { s with host := rest, cmd := 0x00000007 }
  exact ⟨e, rest, he, .inr ⟨ha, ht, hh, frameEffect_temp_of_good _ ht hh, frameEffect_rh_of_good _ ht hh,
    hupd.trans (by simp [ht, hh]), frameEffect_valid_of_good _ ht hh⟩⟩

/-- Settles O27: a bad group leaves only the record of the checks, in which UPD is their conjunction. -/
theorem frameIsStaleOnFailure : Obligations.FrameIsStaleOnFailure := by
  intro s hbad
  rw [exec_frame, frameEffect_of_bad s hbad, State.recordChecks, Status.noteChecks, Bool.and_eq_false_iff.mpr hbad]

/-- Settles O28: each check is recorded as its own group's, which the other buffer is no part of. -/
theorem frameChecksAreIndependent : Obligations.FrameChecksAreIndependent := by
  refine ⟨fun s g => ⟨_, _, exec_frame s, exec_frame _, ?_⟩, fun s g => ⟨_, _, exec_frame s, exec_frame _, ?_⟩⟩
  · obtain ⟨htOk, _, _⟩ := frameEffect_checks s
    obtain ⟨htOk', _, _⟩ := frameEffect_checks { s with mbufH := g }
    exact ⟨htOk'.trans htOk.symm, htOk⟩
  · obtain ⟨_, hhOk, _⟩ := frameEffect_checks s
    obtain ⟨_, hhOk', _⟩ := frameEffect_checks { s with mbufT := g }
    exact ⟨hhOk'.trans hhOk.symm, hhOk⟩

/-- Settles O30: both cached values are `sat64` of an exact sum, which reports overflow and answers the bound on the side the
sum left; saturation does not enter into whether the frame is accepted. -/
theorem saturatedFrameIsCached : Obligations.SaturatedFrameIsCached := by
  intro s ht hh sumT sumH hsat
  obtain ⟨htOk, hhOk, hupd⟩ := frameEffect_checks s
  have htemp : (frameEffect s).temp = (sat64 sumT).value := frameEffect_temp_of_good s ht hh
  have hrh : (frameEffect s).rh = (sat64 sumH).value := frameEffect_rh_of_good s ht hh
  have hovf : (sat64 sumT).ovf = true ∨ (sat64 sumH).ovf = true := by
    rw [(sat64_clamps sumT).2, (sat64_clamps sumH).2]
    tauto
  refine ⟨_, exec_frame s, htOk.trans ht, hhOk.trans hh, hupd.trans (by simp [ht, hh]), frameEffect_valid_of_good s ht hh,
    ?overflow, htemp, hrh, fun habove => ?_, fun hbelow => ?_, fun habove => ?_, fun hbelow => ?_⟩
  case overflow =>
    rw [frameEffect_ovf_of_good s ht hh, frameTemperature_eq_sat64, frameHumidity_eq_sat64]
    exact Bool.or_eq_true_iff.mpr (.inr (Bool.or_eq_true_iff.mpr hovf))
  · rw [htemp, sat64_of_gt sumT habove]
  · rw [htemp, sat64_of_lt sumT hbelow]
  · rw [hrh, sat64_of_gt sumH habove]
  · rw [hrh, sat64_of_lt sumH hbelow]

end Sys2Proof.Machine
end

section
/-! Absolute humidity (spec/45_abs_humidity.md): what AH leaves in the machine, and the statement about its units. -/

namespace Sys2Proof.Machine

/-- The whole next state of a result: RES, and OVF where the result saturated (spec/40_numerics.md R131). -/
theorem State.writeResult_eq (s : State) (r : SatFx) :
    s.writeResult r = { s with res := r.value, status := { s.status with ovf := s.status.ovf || r.ovf } } := rfl

/-- In a unit with a constant, the estimate is multiplied once more, and a saturation of the estimate is still reported
(R192). -/
theorem ahInUnit_eq (unit : Fx) (src : Src) (s : State) :
    ahInUnit unit src s =
      ⟨(mac (ahEstimate src s).value unit 0).value, (ahEstimate src s).ovf || (mac (ahEstimate src s).value unit 0).ovf⟩ := by
  rw [ahInUnit, SatFx.andThen]

/-- Settles O33: the nine forms of AH have two effects, the estimate as it is (mmHg, Torr and every
unrecognised selector, whose value takes no part) and the estimate times a unit's constant. -/
theorem ahWritesTheEstimateInItsUnit : Obligations.AhWritesTheEstimateInItsUnit := by
  intro s src p plain scaled
  have hplain : Host.Outcome.next (s.writeResult (ahEstimate src s)) = (.next plain : Host.Outcome State Fault Refusal) := by
    rw [State.writeResult_eq, ahEstimate]
  have hscaled : ∀ u, Host.Outcome.next (s.writeResult (ahInUnit u src s)) =
      (.next (scaled u) : Host.Outcome State Fault Refusal) := fun u => by
    rw [ahInUnit_eq, State.writeResult_eq, ahEstimate]
  exact ⟨hplain, hplain, fun _ => hplain,
    hscaled constPa, hscaled constBar, hscaled constAt, hscaled constAtm, hscaled constMh2o, hscaled constPsi,
    rfl, rfl, rfl, rfl, rfl, rfl⟩

end Sys2Proof.Machine
end

section
/-! The tolerance tables (spec/46_tolerance.md): each row's conditions, the bounds that keep every tolerance inside the FX range,
and the statements about the rows and about TOL_T and TOL_H. -/

namespace Sys2Proof.Machine

/-! ### The breakpoints and the line of a row (R200, R203, R206) -/

theorem breakpoint_eq (n : Int) : breakpoint n = n * 2 ^ 32 := rfl

theorem tolT_eq_mac (v : Variant) (t : Fx) : tolT v t = mac t (segT v t).slope (segT v t).intercept := rfl

theorem tolH_eq_mac (v : Variant) (h : Fx) : tolH v h = mac h (segH v h).slope (segH v h).intercept := rfl

theorem tolTFahrenheit_eq_andThen (v : Variant) (t : Fx) :
    tolTFahrenheit v t = (tolT v t).andThen fun tol => mac tol constKF 0 := rfl

/-! ### The bounds (R203, R206) -/

/-- Rounding an integer of at most `p` FX units leaves at most `p`. -/
theorem natAbs_rnd32_le (n : Int) (p : Nat) (h : n.natAbs ≤ p * 2 ^ 32) : (rnd32 n).natAbs ≤ p := by
  have hbounds := rnd32_bounds n
  omega

/-- A `mac` whose product is at most `p` units and whose addend is at most `c` does not saturate when `p + c` fits. -/
theorem mac_of_bounded (a b x : Fx) (p c : Nat) (hp : (fxInt a).natAbs * (fxInt b).natAbs ≤ p * 2 ^ 32)
    (hc : (fxInt x).natAbs ≤ c) (hfits : p + c < 2 ^ 63) :
    (mac a b x).ovf = false ∧ (fxInt (mac a b x).value).natAbs ≤ p + c := by
  have hround := natAbs_rnd32_le (fxInt a * fxInt b) p (by rwa [Int.natAbs_mul])
  obtain ⟨hovf, hvalue⟩ := sat64_in_range (rnd32 (fxInt a * fxInt b) + fxInt x)
    (by rw [fxMin]; omega) (by rw [fxMax]; omega)
  rw [mac, hvalue]
  exact ⟨hovf, by omega⟩

theorem natAbs_fxInt_le (a : Fx) : (fxInt a).natAbs ≤ 2 ^ 63 := by
  have hrange := fxInt_range a
  omega

/-- A line with a slope of at most `m` and an intercept of at most `c` does not saturate, whatever the input. -/
theorem Segment.apply_of_bounded (g : Segment) (x : Fx) (m c : Nat) (hm : (fxInt g.slope).natAbs ≤ m)
    (hc : (fxInt g.intercept).natAbs ≤ c) (hfits : 2 ^ 31 * m + c < 2 ^ 63) :
    (g.apply x).ovf = false ∧ (fxInt (g.apply x).value).natAbs ≤ 2 ^ 31 * m + c := by
  refine mac_of_bounded x g.slope g.intercept (2 ^ 31 * m) c ?_ hc hfits
  calc (fxInt x).natAbs * (fxInt g.slope).natAbs
      ≤ 2 ^ 63 * m := Nat.mul_le_mul (natAbs_fxInt_le x) hm
    _ = 2 ^ 31 * m * 2 ^ 32 := by omega

/-- No Celsius tolerance saturates, and each stays below 2^25 (R203). -/
theorem tolT_bounds (v : Variant) (t : Fx) :
    (tolT v t).ovf = false ∧ (fxInt (tolT v t).value).natAbs < 2 ^ 25 * 2 ^ 32 := by
  obtain ⟨hslope, hintercept⟩ := segT_bounds v t
  obtain ⟨hovf, hvalue⟩ := (segT v t).apply_of_bounded t _ _ hslope hintercept (by decide)
  exact ⟨hovf, hvalue.trans_lt (by decide)⟩

/-- The multiplication by 1.8 keeps a Celsius tolerance in range: no Fahrenheit tolerance saturates, and each stays below 2^26
(R203). -/
theorem tolTFahrenheit_bounds (v : Variant) (t : Fx) :
    (tolTFahrenheit v t).ovf = false ∧ (fxInt (tolTFahrenheit v t).value).natAbs < 2 ^ 26 * 2 ^ 32 := by
  obtain ⟨hovf, hvalue⟩ := tolT_bounds v t
  have hfactor : (fxInt constKF).natAbs = 7730941133 := by decide
  obtain ⟨hovfF, hvalueF⟩ := mac_of_bounded (tolT v t).value constKF 0 (2 ^ 26 * 2 ^ 32 - 1) 0
    (by rw [hfactor]; omega) (by decide) (by decide)
  rw [tolTFahrenheit_eq_andThen, SatFx.andThen_ovf, SatFx.andThen_value, hovf, hovfF]
  exact ⟨rfl, by omega⟩

/-- No humidity tolerance saturates, and each stays below 2^29 (R206). -/
theorem tolH_bounds (v : Variant) (h : Fx) :
    (tolH v h).ovf = false ∧ (fxInt (tolH v h).value).natAbs < 2 ^ 29 * 2 ^ 32 := by
  obtain ⟨hslope, hintercept⟩ := segH_bounds v h
  obtain ⟨hovf, hvalue⟩ := (segH v h).apply_of_bounded h _ _ hslope hintercept (by decide)
  exact ⟨hovf, hvalue.trans_lt (by decide)⟩

/-- A result that did not saturate changes RES alone (spec/40_numerics.md R131). -/
theorem State.writeResult_of_ovf_eq_false (s : State) (r : SatFx) (h : r.ovf = false) :
    s.writeResult r = { s with res := r.value } := by
  simp [State.writeResult, h]

/-! ### The whole next state of each query (R208) -/

theorem exec_tolTC_eq_next (src : Src) (s : State) :
    exec (.tolTC src) s = .next { s with res := (tolT s.cfg.variant (tIn src s)).value } := by
  rw [exec_tolTC, s.writeResult_of_ovf_eq_false _ (tolT_bounds _ _).1]

theorem exec_tolTF_eq_next (src : Src) (s : State) :
    exec (.tolTF src) s = .next { s with res := (tolTFahrenheit s.cfg.variant (tIn src s)).value } := by
  rw [exec_tolTF, s.writeResult_of_ovf_eq_false _ (tolTFahrenheit_bounds _ _).1]

theorem exec_tolTK_eq_next (src : Src) (s : State) :
    exec (.tolTK src) s = .next { s with res := (tolT s.cfg.variant (tIn src s)).value } := by
  rw [exec_tolTK, s.writeResult_of_ovf_eq_false _ (tolT_bounds _ _).1]

theorem exec_tolH_eq_next (src : Src) (s : State) :
    exec (.tolH src) s = .next { s with res := (tolH s.cfg.variant (hIn src s)).value } := by
  rw [exec_tolH, s.writeResult_of_ovf_eq_false _ (tolH_bounds _ _).1]

/-! ### The statements -/

/-- Settles O37: no tolerance saturates, so the OVF that its result would note stays as it is; the value is the row's line. -/
theorem toleranceQueriesWriteResOnly : Obligations.ToleranceQueriesWriteResOnly := by
  intro s src gt gh tol
  refine ⟨?celsius, ?fahrenheit, ⟨(tolT s.cfg.variant (tIn src s)).value, exec_tolTK_eq_next src s⟩, ?humidity⟩
  case celsius => rw [exec_tolTC_eq_next, tolT_eq_mac]
  case fahrenheit => rw [exec_tolTF_eq_next, tolTFahrenheit_eq_andThen, SatFx.andThen_value, tolT_eq_mac]
  case humidity => rw [exec_tolH_eq_next, tolH_eq_mac]

/-- Settles O35: with the breakpoints as integers, a row's condition refuses every row above it and is its own; and each
quantised literal evaluates. -/
theorem temperatureTableRows : Obligations.TemperatureTableRows := by
  have hbreak0 := breakpoint_eq 0
  have hbreak20 := breakpoint_eq 20
  have hbreak60 := breakpoint_eq 60
  have hbreak65 := breakpoint_eq 65
  have hbreak90 := breakpoint_eq 90
  refine ⟨tolT_eq_mac, fun t => ⟨fun h0 => ?_, fun h0 h65 => ?_, fun h65 => ?_, fun h0 => ?_, fun h0 h90 => ?_, fun h90 => ?_,
    fun h0 => ?_, fun h0 h20 => ?_, fun h20 h60 => ?_, fun h60 h90 => ?_, fun h90 => ?_⟩, by decide⟩
  all_goals simp only [segT, fxInt]
  · rw [if_pos (by omega)]
  · rw [if_neg (by omega), if_pos (by omega)]
  · rw [if_neg (by omega), if_neg (by omega)]
  · rw [if_pos (by omega)]
  · rw [if_neg (by omega), if_pos (by omega)]
  · rw [if_neg (by omega), if_neg (by omega)]
  · rw [if_pos (by omega)]
  · rw [if_neg (by omega), if_pos (by omega)]
  · rw [if_neg (by omega), if_neg (by omega), if_pos (by omega)]
  · rw [if_neg (by omega), if_neg (by omega), if_neg (by omega), if_pos (by omega)]
  · rw [if_neg (by omega), if_neg (by omega), if_neg (by omega), if_neg (by omega)]

/-- Settles O36: as for the temperature table; the row of Variant31 has no condition. -/
theorem humidityTableRows : Obligations.HumidityTableRows := by
  have hbreak10 := breakpoint_eq 10
  have hbreak80 := breakpoint_eq 80
  have hbreak90 := breakpoint_eq 90
  refine ⟨fun h => ⟨fun h10 => ?_, fun h10 h90 => ?_, fun h90 => ?_, rfl, fun h80 => ?_, fun h80 => ?_⟩, by decide⟩
  all_goals simp only [segH, fxInt]
  · rw [if_pos (by omega)]
  · rw [if_neg (by omega), if_pos (by omega)]
  · rw [if_neg (by omega), if_neg (by omega)]
  · rw [if_pos (by omega)]
  · rw [if_neg (by omega)]

end Sys2Proof.Machine
end

section
/-! NOP (spec/47_control.md R220): the command, the step of its write, and the illegal words beside it. -/

namespace Sys2Proof.Machine

theorem decode_zero : decode 0x00000000 = .ok .nop := rfl

theorem exec_nop (s : State) : exec .nop s = .next s := rfl

/-- The step that serves NOP's write stores 0 in CMD, and that is its only change to a register. -/
theorem step_facing_commandWrite_zero (s : State) (rest : List HostEvent) :
    step (s.facing (commandWrite 0) rest) = .next ({ s with cmd := 0 }.answered rest (.write .okay)) := by
  rw [commandWrite_eq, step_facing_cmd_write, runCommand_of_ok 0 .nop _ decode_zero, exec_nop, onNext_next]
  rfl

/-- The step that serves the write of an illegal word leaves ERR set (spec/60_exceptions.md R231). -/
theorem step_facing_illegalWord_err (s : State) (w : Word) (rest : List HostEvent) (hw : IllegalWord w) :
    ∃ t, step (s.facing (commandWrite w) rest) = .next t ∧ t.status.err = true :=
  have ⟨hstep, _⟩ := illegalWordsSetErrAndNothingElse
  ⟨_, hstep s w rest hw, rfl⟩

/-- NOP's opcode with a bit of SEL set. -/
theorem illegalWord_nop_sel : IllegalWord 0x00000100 := by
  unfold IllegalWord
  decide

/-- NOP's opcode with SRC set. -/
theorem illegalWord_nop_src : IllegalWord 0x00001000 := by
  unfold IllegalWord
  decide

/-- Settles O39: the word 0 decodes to NOP, whose write changes CMD alone, and the reset value of CMD is 0 already; the two
words with SEL or SRC set are on the list of spec/30_encoding.md R98. -/
theorem nopDoesNothing : Obligations.NopDoesNothing := by
  refine ⟨exec_nop, decode_zero, step_facing_commandWrite_zero, fun s w rest hw => ?illegal, ?reset⟩
  case illegal =>
    rcases hw with rfl | rfl
    · exact step_facing_illegalWord_err s _ rest illegalWord_nop_sel
    · exact step_facing_illegalWord_err s _ rest illegalWord_nop_src
  case reset => exact ⟨_, step_facing_commandWrite_zero State.reset [], rfl⟩

end Sys2Proof.Machine
end

section
/-! Decoder, encoder and table together (spec/30_encoding.md R96, R97, R100): a command of the block is decoded from its own
encoding, and from no other word; its row is the one row that accepts it. -/

namespace Sys2Proof

/-! ### Decoding an encoding (R97, R100) -/

/-- AH keeps the selector as an operand exactly where it names no unit (R92). -/
theorem decodeAh_eq_ahSel_iff (sel : BitVec 4) (src : Src) : decodeAh sel src = .ahSel sel src ↔ 8 ≤ sel.toNat := by
  cases src <;> (revert sel; decide)

theorem decode_encode_ahSel (sel : BitVec 4) (src : Src) : decode (encode (.ahSel sel src)) = .ok (decodeAh sel src) := by
  rw [encode, decode_assemble]
  exact congrArg (fun x => Except.ok (decodeAh sel x)) (srcOfBit_bit src)

/-- A term is a command of the block exactly when decoding its encoding gives it back. -/
theorem decode_encode_iff (i : Instr) : decode (encode i) = .ok i ↔ i.WellFormed := by
  cases i with
  | ahSel sel src =>
    rw [decode_encode_ahSel, Except.ok.injEq, decodeAh_eq_ahSel_iff, Instr.WellFormed, Instr.wf, decide_eq_true_iff]
  | nop | crcGenT | crcGenH | crcChkT | crcChkH | convT | convH | calT | calH | frame => exact iff_of_true rfl rfl
  | getTC src | getTF src | getTK src | ahMmhg src | ahTorr src | ahPa src | ahBar src | ahAt src | ahAtm src | ahMh2o src
  | ahPsi src | tolTC src | tolTF src | tolTK src | tolH src => cases src <;> exact iff_of_true rfl rfl

/-- Settles O1: a word decodes only as the encoding of its command, and an encoding decodes exactly when it is of a command. -/
theorem decodeAgreesWithEncode : Obligations.DecodeAgreesWithEncode := by
  intro w i
  constructor
  · intro hdec
    obtain rfl := encode_of_decode w i hdec
    exact ⟨(decode_encode_iff i).mp hdec, rfl⟩
  · rintro ⟨hwf, rfl⟩
    exact (decode_encode_iff i).mpr hwf

/-- Settles O2: both accept the legal words of R97. -/
theorem decoderAcceptsExactlyTheTableRows : Obligations.DecoderAcceptsExactlyTheTableRows := fun w =>
  (exists_decode_ok_iff_legalWord w).trans (exists_row_accepts_iff_legalWord w).symm

/-- Settles O5: each word is the encoding of its command. -/
theorem sampleWordsDecode : Obligations.SampleWordsDecode := by
  have decodes : ∀ (w : Word) (i : Instr), i.WellFormed → encode i = w → decode w = .ok i :=
    fun w i hwf henc => (decodeAgreesWithEncode w i).mpr ⟨hwf, henc⟩
  exact ⟨decodes _ _ rfl rfl, decodes _ _ rfl rfl, decodes _ _ rfl rfl, decodes _ _ rfl rfl, decodes _ _ rfl rfl,
    decodes _ _ rfl rfl, decodes _ _ rfl rfl, decodes _ _ rfl rfl⟩

/-! ### The rows of the table (R96) -/

/-- Two rows overlap only if their patterns agree in the bits that both masks compare. -/
theorem CommandRow.patterns_agree_of_accepts (r r' : CommandRow) (w : Word) (h : r.accepts w = true)
    (h' : r'.accepts w = true) : r.pattern &&& r'.mask = r'.pattern &&& r.mask := by
  have hr : w &&& r.mask = r.pattern := of_decide_eq_true h
  have hr' : w &&& r'.mask = r'.pattern := of_decide_eq_true h'
  rw [← hr, ← hr', BitVec.and_assoc, BitVec.and_assoc, BitVec.and_comm r.mask]

/-- The patterns of two different rows differ in a bit that both masks compare. -/
theorem commandRows_separated :
    ∀ r ∈ commandRows, ∀ r' ∈ commandRows, r.pattern &&& r'.mask = r'.pattern &&& r.mask → r = r' := by
  decide

/-- Settles O3: rows that accept one word have patterns that agree, and no two rows of the table have. -/
theorem noWordMatchesTwoRows : Obligations.NoWordMatchesTwoRows := fun w r r' hr hr' h h' =>
  commandRows_separated r hr r' hr' (r.patterns_agree_of_accepts r' w h h')

theorem commandRows_name_nodup : (commandRows.map CommandRow.name).Nodup := by
  decide

theorem exists_row_of_ahSel (sel : BitVec 4) (src : Src) (h : 8 ≤ sel.toNat) :
    ∃ r ∈ commandRows, r.name = "AH.SELn" ∧ r.accepts (encode (.ahSel sel src)) = true := by
  refine ⟨⟨"AH.SELn", 0x00000809, 0xFFFFE8FF⟩, by decide, rfl, ?_⟩
  cases src <;> (revert sel; decide)

/-- Every command has a row of its name, which accepts its encoding. -/
theorem exists_row_of_wellFormed (i : Instr) (h : i.WellFormed) :
    ∃ r ∈ commandRows, r.name = i.rowName ∧ r.accepts (encode i) = true := by
  cases i with
  | ahSel sel src => exact exists_row_of_ahSel sel src (of_decide_eq_true h)
  | nop | crcGenT | crcGenH | crcChkT | crcChkH | convT | convH | calT | calH | frame => decide
  | getTC src | getTF src | getTK src | ahMmhg src | ahTorr src | ahPa src | ahBar src | ahAt src | ahAtm src | ahMh2o src
  | ahPsi src | tolTC src | tolTF src | tolTK src | tolH src => cases src <;> decide

/-- Settles O4: the row of the command's name accepts the encoding; a row of that name is that row, and so is one that
accepts the same word. -/
theorem encodedCommandMatchesItsOwnRow : Obligations.EncodedCommandMatchesItsOwnRow := by
  intro i hwf r hr
  obtain ⟨own, hown, hname, haccepts⟩ := exists_row_of_wellFormed i hwf
  constructor
  · intro h
    rw [noWordMatchesTwoRows (encode i) r own hr hown h haccepts, hname]
  · intro h
    rwa [List.inj_on_of_nodup_map commandRows_name_nodup hr hown (h.trans hname.symm)]

end Sys2Proof
end

section
/-! What a command can write (spec/10_state.md sections 2 to 11; spec/60_exceptions.md section 1), said once for every command,
and what every step therefore keeps: the sticky flags, the lock, and the invariant. -/

namespace Sys2Proof.Machine

/-! ### The registers that no command writes -/

/-- What every command keeps: the constants, CMD, CFG, the buffer, operand and calibration registers, the model's own fields,
and STATUS.ERR. -/
structure State.KeepsInputs (s t : State) : Prop where
  id : t.id = s.id
  cmd : t.cmd = s.cmd
  cfg : t.cfg = s.cfg
  mbufT : t.mbufT = s.mbufT
  mbufH : t.mbufH = s.mbufH
  opa : t.opa = s.opa
  opb : t.opb = s.opb
  caltF : t.caltF = s.caltF
  caltS : t.caltS = s.caltS
  calhF : t.calhF = s.calhF
  calhS : t.calhS = s.calhS
  poly0 : t.poly0 = s.poly0
  poly1 : t.poly1 = s.poly1
  poly2 : t.poly2 = s.poly2
  poly3 : t.poly3 = s.poly3
  poly4 : t.poly4 = s.poly4
  poly5 : t.poly5 = s.poly5
  host : t.host = s.host
  answer : t.answer = s.answer
  resetAsserted : t.resetAsserted = s.resetAsserted
  err : t.status.err = s.status.err

theorem State.keepsInputs_refl (s : State) : s.KeepsInputs s := by
  constructor <;> rfl

theorem State.keepsInputs_crcGen (s : State) (g : SensorGroup) : s.KeepsInputs (crcGen g s) := by
  constructor <;> rfl

theorem State.keepsInputs_crcChk (s : State) (g : SensorGroup) : s.KeepsInputs (crcChk g s) := by
  constructor <;> rfl

theorem State.keepsInputs_writeResult (s : State) (r : SatFx) : s.KeepsInputs (s.writeResult r) := by
  constructor <;> rfl

/-- All FRAME does to STATUS and to the cached state: it records the checks, and with both groups good it caches a reading. -/
theorem frameEffect_cases (s : State) :
    (∃ t h, s.mbufT.good = true ∧ s.mbufH.good = true ∧ frameEffect s = (s.recordChecks true true).cacheReading t h) ∨
      ((s.mbufT.good && s.mbufH.good) = false ∧ frameEffect s = s.recordChecks s.mbufT.good s.mbufH.good) := by
  cases hgood : s.mbufT.good && s.mbufH.good with
  | true =>
    obtain ⟨ht, hh⟩ := Bool.and_eq_true_iff.mp hgood
    exact .inl ⟨_, _, ht, hh, frameEffect_of_good s ht hh⟩
  | false => exact .inr ⟨rfl, frameEffect_of_bad s (Bool.and_eq_false_iff.mp hgood)⟩

theorem State.keepsInputs_frameEffect (s : State) : s.KeepsInputs (frameEffect s) := by
  rcases frameEffect_cases s with ⟨t, h, _, _, heq⟩ | ⟨_, heq⟩
  · rw [heq]
    constructor <;> rfl
  · rw [heq]
    constructor <;> rfl

/-- No command writes the registers of `KeepsInputs`. -/
theorem exec_keepsInputs (i : Instr) (s t : State) (h : exec i s = .next t) : s.KeepsInputs t := by
  rcases exec_cases i s with ⟨_, hnop⟩ | ⟨g, _, hgen⟩ | ⟨g, _, hchk⟩ | ⟨_, hframe⟩ | ⟨r, _, hres⟩
  · cases hnop.symm.trans h
    exact s.keepsInputs_refl
  · cases hgen.symm.trans h
    exact s.keepsInputs_crcGen g
  · cases hchk.symm.trans h
    exact s.keepsInputs_crcChk g
  · cases hframe.symm.trans h
    exact s.keepsInputs_frameEffect
  · cases hres.symm.trans h
    exact s.keepsInputs_writeResult r

/-! ### The registers that some commands write -/

/-- Only CRC_GEN and CRC_CHK write CRC_OUT (R30). -/
theorem exec_keeps_crcOut (i : Instr) (s t : State) (h : exec i s = .next t) (hi : writesCrcOut i = false) :
    t.crcOut = s.crcOut := by
  have hnot := of_decide_eq_false hi
  rcases exec_cases i s with ⟨_, hnop⟩ | ⟨g, hgen, _⟩ | ⟨g, hchk, _⟩ | ⟨_, hframe⟩ | ⟨r, _, hres⟩
  · cases hnop.symm.trans h
    rfl
  · exact absurd (hgen.elim .inl (.inr ∘ .inl)) hnot
  · exact absurd (.inr (.inr hchk)) hnot
  · cases hframe.symm.trans h
    obtain ⟨_, _, _, _, _, hcrcOut, _⟩ := frameEffect_frame s
    exact hcrcOut
  · cases hres.symm.trans h
    rfl

/-- Only CRC_CHK writes CRC_OK (R23). -/
theorem exec_keeps_crcOk (i : Instr) (s t : State) (h : exec i s = .next t) (hi : writesCrcOk i = false) :
    t.status.crcOk = s.status.crcOk := by
  have hnot := of_decide_eq_false hi
  rcases exec_cases i s with ⟨_, hnop⟩ | ⟨g, _, hgen⟩ | ⟨g, hchk, _⟩ | ⟨_, hframe⟩ | ⟨r, _, hres⟩
  · cases hnop.symm.trans h
    rfl
  · cases hgen.symm.trans h
    rfl
  · exact absurd hchk hnot
  · cases hframe.symm.trans h
    rcases frameEffect_cases s with ⟨x, y, _, _, heq⟩ | ⟨_, heq⟩ <;> rw [heq] <;> rfl
  · cases hres.symm.trans h
    rfl

/-- A command that does not write RES is NOP, a checksum command or FRAME (R32). -/
theorem exec_keeps_res (i : Instr) (s t : State) (h : exec i s = .next t) (hi : writesRes i = false) : t.res = s.res := by
  cases i with
  | nop | crcGenT | crcGenH | crcChkT | crcChkH =>
    cases h
    rfl
  | frame =>
    cases (exec_frame s).symm.trans h
    obtain ⟨_, _, _, _, _, _, _, _, hres, _⟩ := frameEffect_frame s
    exact hres
  | convT | convH | calT | calH | getTC | getTF | getTK | ahMmhg | ahTorr | ahPa | ahBar | ahAt | ahAtm | ahMh2o | ahPsi
  | ahSel | tolTC | tolTF | tolTK | tolH => cases hi

theorem State.writeResult_keeps_ovf (s t : State) (r : SatFx) (hr : r.ovf = false)
    (h : Host.Outcome.next (s.writeResult r) = (.next t : Host.Outcome State Fault Refusal)) :
    t.status.ovf = s.status.ovf := by
  cases h
  simp [hr]

/-- The conversions and GET_T.C are exact and the tolerances never saturate, so none of them sets OVF (spec/60_exceptions.md
R232). -/
theorem exec_keeps_ovf (i : Instr) (s t : State) (h : exec i s = .next t) (hi : canSaturate i = false) :
    t.status.ovf = s.status.ovf := by
  cases i with
  | nop | crcGenT | crcGenH | crcChkT | crcChkH =>
    cases h
    rfl
  | convT => exact s.writeResult_keeps_ovf t (.exact (convT s.mbufT.raw)) rfl h
  | convH => exact s.writeResult_keeps_ovf t (.exact (convH s.mbufH.raw)) rfl h
  | getTC src => exact s.writeResult_keeps_ovf t (.exact (tIn src s)) rfl h
  | tolTC src | tolTK src => exact s.writeResult_keeps_ovf t _ (tolT_bounds _ _).1 h
  | tolTF src => exact s.writeResult_keeps_ovf t _ (tolTFahrenheit_bounds _ _).1 h
  | tolH src => exact s.writeResult_keeps_ovf t _ (tolH_bounds _ _).1 h
  | calT | calH | frame | getTF | getTK | ahMmhg | ahTorr | ahPa | ahBar | ahAt | ahAtm | ahMh2o | ahPsi | ahSel => cases hi

/-- FRAME's own flags and the cached state hold the same values in both states. -/
structure State.SameReading (s t : State) : Prop where
  temp : t.temp = s.temp
  rh : t.rh = s.rh
  tOk : t.status.tOk = s.status.tOk
  hOk : t.status.hOk = s.status.hOk
  upd : t.status.upd = s.status.upd
  valid : t.status.valid = s.status.valid

/-- A command other than FRAME keeps the cached state and FRAME's flags (R23, R33). -/
theorem exec_sameReading_of_ne_frame (i : Instr) (s t : State) (hne : i ≠ .frame) (h : exec i s = .next t) :
    s.SameReading t := by
  rcases exec_cases i s with ⟨_, hnop⟩ | ⟨g, _, hgen⟩ | ⟨g, _, hchk⟩ | ⟨hframe, _⟩ | ⟨r, _, hres⟩
  · cases hnop.symm.trans h
    constructor <;> rfl
  · cases hgen.symm.trans h
    constructor <;> rfl
  · cases hchk.symm.trans h
    constructor <;> rfl
  · exact absurd hframe hne
  · cases hres.symm.trans h
    constructor <;> rfl

/-- Settles O56: the registers no command writes, and then each register that only some commands write. -/
theorem commandsWriteOnlyTheirRegisters : Obligations.CommandsWriteOnlyTheirRegisters := by
  intro i s
  obtain ⟨t, h⟩ := exec_answers i s
  have keep := exec_keepsInputs i s t h
  refine ⟨t, h, keep.id, keep.cmd, keep.cfg, keep.mbufT, keep.mbufH, keep.opa, keep.opb, keep.caltF, keep.caltS, keep.calhF,
    keep.calhS, keep.poly0, keep.poly1, keep.poly2, keep.poly3, keep.poly4, keep.poly5, keep.host, keep.answer,
    keep.resetAsserted, keep.err, exec_keeps_res i s t h, exec_keeps_crcOut i s t h, exec_keeps_crcOk i s t h,
    exec_keeps_ovf i s t h, fun hne => ?_⟩
  obtain ⟨htemp, hrh, htOk, hhOk, hupd, hvalid⟩ := exec_sameReading_of_ne_frame i s t hne h
  exact ⟨htemp, hrh, htOk, hhOk, hupd, hvalid⟩

/-! ### The sticky flags (spec/10_state.md R24, R25) -/

/-- No command clears OVF. -/
theorem exec_ovf_sticky (i : Instr) (s t : State) (h : exec i s = .next t) (hovf : s.status.ovf = true) :
    t.status.ovf = true := by
  rcases exec_cases i s with ⟨_, hnop⟩ | ⟨g, _, hgen⟩ | ⟨g, _, hchk⟩ | ⟨_, hframe⟩ | ⟨r, _, hres⟩
  · cases hnop.symm.trans h
    exact hovf
  · cases hgen.symm.trans h
    exact hovf
  · cases hchk.symm.trans h
    exact hovf
  · cases hframe.symm.trans h
    rcases frameEffect_cases s with ⟨x, y, _, _, heq⟩ | ⟨_, heq⟩ <;> simp [heq, hovf]
  · cases hres.symm.trans h
    simp [hovf]

theorem State.hostSetFx_status (s : State) (r : FxReg) (v : Fx) : (s.hostSetFx r v).status = s.status := by
  cases r <;> rfl

/-- The host writes STATUS only at its own offset. -/
theorem State.writeWord_status (s : State) (b : BusWord) (v : Word) :
    (s.writeWord b v).status = if b = .status then s.status.hostWrite v else s.status := by
  cases b with
  | lo r | hi r => exact s.hostSetFx_status r _
  | id | cmd | status | cfg | mbufT | mbufH | crcOut | reserved => rfl

/-- A flag of STATUS that no command and no illegal word clears, and that a host write to STATUS clears only by a 1 in bit
`k`. -/
structure StickyFlag (flag : Status → Bool) (k : Nat) : Prop where
  noteIllegal : ∀ st : Status, flag st = true → flag st.noteIllegal = true
  exec : ∀ (i : Instr) (s t : State), exec i s = .next t → flag s.status = true → flag t.status = true
  hostWrite : ∀ (st : Status) (v : Word), flag st = true → flag (st.hostWrite v) = !v.getLsbD k

theorem stickyFlag_ovf : StickyFlag Status.ovf 8 where
  noteIllegal _ h := h
  exec := exec_ovf_sticky
  hostWrite st v h := by simp [h]

theorem stickyFlag_err : StickyFlag Status.err 9 where
  noteIllegal _ _ := rfl
  exec i s t h herr := (exec_keepsInputs i s t h).err.trans herr
  hostWrite st v h := by simp [h]

/-- A step clears a sticky flag only by reset or by an accepted write of 1 to its bit of STATUS. -/
theorem StickyFlag.cleared_by_step {flag : Status → Bool} {k : Nat} (hf : StickyFlag flag k) (s t : State)
    (h : step s = .next t) (hset : flag s.status = true) (hclear : flag t.status = false) :
    ∃ e rest, s.host = e :: rest ∧ (e.assertsReset ∨ ∃ v, s.acceptsWrite e .status v ∧ v.getLsbD k = true) := by
  have kept : flag t.status ≠ true := by simp [hclear]
  rcases step_next_cases s t h with ⟨_, rfl⟩ | ⟨e, rest, he, hcase⟩
  · exact absurd hset kept
  refine ⟨e, rest, he, ?_⟩
  rcases hcase with ⟨hr, _⟩ | ⟨a, b, rfl, _⟩ | ⟨v, off, ha, _, rfl⟩ | ⟨v, _, _, rfl⟩ | ⟨v, i, u, _, _, hu, rfl⟩
  · exact .inl hr
  · exact absurd hset kept
  · rw [State.giveAnswer_status, State.writeWord_status] at hclear
    split_ifs at hclear with hb
    · rw [hf.hostWrite _ v hset, Bool.not_eq_false'] at hclear
      exact .inr ⟨v, hb ▸ ha, hclear⟩
    · exact absurd (hset.symm.trans hclear) nofun
  · exact absurd (hf.noteIllegal _ hset) kept
  · exact absurd (hf.exec i _ u hu hset) kept

/-- Settles O53: commands keep both flags, and a step clears one only through STATUS's own write rule. -/
theorem stickyFlagsStay : Obligations.StickyFlagsStay := by
  refine ⟨fun i s => ?_, stickyFlag_ovf.cleared_by_step, stickyFlag_err.cleared_by_step⟩
  obtain ⟨t, h⟩ := exec_answers i s
  exact ⟨t, h, (exec_keepsInputs i s t h).err, exec_ovf_sticky i s t h⟩

/-! ### The lock (spec/10_state.md R26, R27) -/

theorem State.hostSetFx_cfg (s : State) (r : FxReg) (v : Fx) : (s.hostSetFx r v).cfg = s.cfg := by
  cases r <;> rfl

/-- With LOCK set no host write changes CFG. -/
theorem State.writeWord_cfg_of_lock (s : State) (b : BusWord) (v : Word) (h : s.cfg.lock = true) :
    (s.writeWord b v).cfg = s.cfg := by
  cases b with
  | cfg => exact s.cfg.hostWrite_of_lock v h
  | lo r | hi r => exact s.hostSetFx_cfg r _
  | id | cmd | status | mbufT | mbufH | crcOut | reserved => rfl

/-- Settles O54: no command writes CFG, and a host write to a locked CFG is ignored. -/
theorem lockHoldsUntilReset : Obligations.LockHoldsUntilReset := by
  intro s t h hlock hne
  rcases step_next_cases s t h with ⟨_, rfl⟩ | ⟨e, rest, he, hcase⟩
  · exact absurd rfl hne
  refine ⟨e, rest, he, ?_⟩
  rcases hcase with ⟨hr, _⟩ | ⟨a, b, rfl, _⟩ | ⟨v, off, _, _, rfl⟩ | ⟨v, _, _, rfl⟩ | ⟨v, i, u, _, _, hu, rfl⟩
  · exact hr
  · exact absurd rfl hne
  · exact absurd (State.writeWord_cfg_of_lock { s with host := rest } (busWord off) v hlock) hne
  · exact absurd rfl hne
  · exact absurd (exec_keepsInputs i _ u hu).cfg hne

/-! ### The invariant -/

/-- Settles O51: the reset state evaluates to the constants and to flags that are all 0. -/
theorem resetMeetsTheInvariant : Obligations.ResetMeetsTheInvariant :=
  ⟨⟨rfl, rfl, rfl, rfl, rfl, rfl, rfl⟩, ⟨rfl, nofun, fun _ => ⟨rfl, rfl⟩⟩, nofun⟩

/-- The host cannot write a constant register (spec/10_state.md R21, R36, R37). -/
theorem State.constantsHold_writeWord (s : State) (b : BusWord) (v : Word) (h : s.constantsHold) :
    (s.writeWord b v).constantsHold := by
  cases b with
  | lo r | hi r => cases r <;> exact h
  | id | cmd | status | cfg | mbufT | mbufH | crcOut | reserved => exact h

theorem exec_constantsHold (i : Instr) (s t : State) (h : exec i s = .next t) (hs : s.constantsHold) : t.constantsHold := by
  have keep := exec_keepsInputs i s t h
  rwa [State.constantsHold, keep.id, keep.poly0, keep.poly1, keep.poly2, keep.poly3, keep.poly4, keep.poly5]

/-- The signal that is consistent in `s` is so in `t` when neither FRAME's flags nor the cached state changed. -/
theorem State.SameReading.signalConsistent {s t : State} (h : s.SameReading t) (hs : s.signalConsistent) :
    t.signalConsistent := by
  rwa [State.signalConsistent, h.temp, h.rh, h.tOk, h.hOk, h.upd, h.valid]

/-- The host writes neither FRAME's flags nor the cached state (spec/10_state.md R25, R37). -/
theorem State.sameReading_writeWord (s : State) (b : BusWord) (v : Word) : s.SameReading (s.writeWord b v) := by
  obtain ⟨htemp, hrh⟩ := s.sameCache_writeWord b v
  have hstatus := s.writeWord_status b v
  split_ifs at hstatus <;> exact ⟨htemp, hrh, by simp [hstatus], by simp [hstatus], by simp [hstatus], by simp [hstatus]⟩

/-- FRAME leaves a consistent signal: with both groups good UPD and VALID are set, and otherwise UPD is 0 and VALID, TEMP and
RH are as before. -/
theorem signalConsistent_frameEffect (s : State) (hs : s.signalConsistent) : (frameEffect s).signalConsistent := by
  obtain ⟨_, _, hcache⟩ := hs
  rcases frameEffect_cases s with ⟨x, y, _, _, heq⟩ | ⟨hbad, heq⟩
  · rw [heq]
    exact ⟨rfl, fun _ => rfl, nofun⟩
  · rw [heq]
    exact ⟨rfl, fun hupd => absurd (hbad.symm.trans hupd) nofun, hcache⟩

theorem exec_signalConsistent (i : Instr) (s t : State) (h : exec i s = .next t) (hs : s.signalConsistent) :
    t.signalConsistent := by
  by_cases hi : i = .frame
  · subst hi
    cases (exec_frame s).symm.trans h
    exact signalConsistent_frameEffect s hs
  · exact (exec_sameReading_of_ne_frame i s t hi h).signalConsistent hs

theorem State.writeWord_resetAsserted (s : State) (b : BusWord) (v : Word) :
    (s.writeWord b v).resetAsserted = s.resetAsserted := by
  cases b with
  | lo r | hi r => cases r <;> rfl
  | id | cmd | status | cfg | mbufT | mbufH | crcOut | reserved => rfl

/-- With the reset input released the last clause of the invariant says nothing. -/
theorem State.inv_of_released (s : State) (hc : s.constantsHold) (hsig : s.signalConsistent) (hr : s.resetAsserted = false) :
    s.Inv :=
  ⟨hc, hsig, fun h => absurd (hr.symm.trans h) nofun⟩

/-- The register part of an asserted reset is the reset state's. -/
theorem State.inv_assertReset (s : State) : s.assertReset.Inv :=
  have ⟨hc, hsig, _⟩ := resetMeetsTheInvariant
  ⟨hc, hsig, fun _ => rfl⟩

/-- Settles O52: a reset reaches the reset values; an event that no register sees keeps them; and a write is accepted only with
the reset input released, when the constants and the signal are all there is to keep. -/
theorem stepKeepsTheInvariant : Obligations.StepKeepsTheInvariant := by
  intro s t hinv h
  rcases step_next_cases s t h with ⟨_, rfl⟩ | ⟨e, rest, _, hcase⟩
  · exact hinv
  obtain ⟨hc, hsig, hreset⟩ := hinv
  rcases hcase with ⟨_, rfl⟩ | ⟨a, b, rfl, hb⟩ | ⟨v, off, ⟨hr, _⟩, _, rfl⟩ | ⟨v, ⟨hr, _⟩, _, rfl⟩ |
    ⟨v, i, u, ⟨hr, _⟩, _, hu, rfl⟩
  · exact State.inv_assertReset _
  · refine ⟨hc, hsig, fun hasserted => ?_⟩
    rcases hb with rfl | rfl
    · cases hasserted
    · exact hreset hasserted
  · exact State.inv_of_released _ (State.constantsHold_writeWord { s with host := rest } (busWord off) v hc)
      ((State.sameReading_writeWord { s with host := rest } (busWord off) v).signalConsistent hsig)
      ((State.writeWord_resetAsserted { s with host := rest } (busWord off) v).trans hr)
  · exact State.inv_of_released _ hc hsig hr
  · exact State.inv_of_released _ (exec_constantsHold i _ u hu hc) (exec_signalConsistent i _ u hu hsig)
      ((exec_keepsInputs i _ u hu).resetAsserted.trans hr)

end Sys2Proof.Machine
end

section
/-! The laws of the arithmetic that spec/40_numerics.md and spec/43_calibration.md derive, and what follows from them for GET_T,
AH and the tolerances. -/

namespace Sys2Proof.Machine

/-! ### Division by 1000 (spec/40_numerics.md R126) -/

/-- The quotient is far inside the FX range, so narrowing it to 64 bits loses nothing. -/
theorem fxInt_div1000 (a : Fx) : fxInt (div1000 a) = (fxInt a + 500) / 1000 := by
  have hrange := fxInt_range a
  rw [div1000]
  exact fxInt_fxOfInt _ (by omega) (by omega)

/-- Settles O11: the exact floor gives the distance, the bounds and the tie. -/
theorem divisionByThousandIsNearestAndNeverOverflows : Obligations.DivisionByThousandIsNearestAndNeverOverflows := by
  refine ⟨fun a => ?floor, fun a k htie => ?tie, fxInt_div1000 _, fxInt_div1000 _⟩
  all_goals have hfloor : (div1000 a).toInt = (a.toInt + 500) / 1000 := fxInt_div1000 a
  case floor =>
    have hrange : -2 ^ 63 ≤ a.toInt ∧ a.toInt ≤ 2 ^ 63 - 1 := fxInt_range a
    exact ⟨hfloor, by omega, by omega, by omega⟩
  case tie => omega

/-! ### Rounding (spec/40_numerics.md section 4) -/

theorem rnd32_mono (m n : Int) (h : m ≤ n) : rnd32 m ≤ rnd32 n := by
  have hm := rnd32_bounds m
  have hn := rnd32_bounds n
  omega

/-- Away from a tie the nearest multiple is the same on both sides of 0. -/
theorem rnd32_neg_of_ne_tie (n : Int) (h : n % 2 ^ 32 ≠ 2 ^ 31) : rnd32 (-n) = -rnd32 n := by
  have hpos := rnd32_bounds n
  have hneg := rnd32_bounds (-n)
  omega

/-- Both of a tie and its negation go upward. -/
theorem rnd32_neg_of_tie (n : Int) (h : n % 2 ^ 32 = 2 ^ 31) : rnd32 (-n) = -rnd32 n + 1 := by
  have hpos := rnd32_bounds n
  have hneg := rnd32_bounds (-n)
  omega

theorem mac_constOne_zero (a : Fx) : mac a constOne 0 = .exact a := by
  rw [mac_constOne, addsat_zero]

/-- Settles O13: each law is the floor's two inequalities at the numbers it compares. -/
theorem roundingLaws : Obligations.RoundingLaws := by
  refine ⟨mac_constOne_zero, fun n => ?halfUnit, rnd32_mono, rnd32_neg_of_ne_tie, rnd32_neg_of_tie⟩
  case halfUnit =>
    have hbounds := rnd32_bounds n
    omega

/-! ### The calibration function (spec/43_calibration.md R173) -/

theorem mac_comm (a b c : Fx) : mac a b c = mac b a c := by
  rw [mac, mac, Int.mul_comm]

/-- With a factor of 0.0 only the addend is left, and it is an FX value already. -/
theorem mac_zero_right (a c : Fx) : mac a 0 c = .exact c := by
  rw [mac, fxInt_zero, mul_zero, rnd32_zero, zero_add, sat64_fxInt, SatFx.exact]

theorem mac_zero_left (b c : Fx) : mac 0 b c = .exact c := by
  rw [mac_comm, mac_zero_right]

/-- Settles O24: calibration is one `mac`, at the factors 1.0 and 0.0. -/
theorem calibrationLaws : Obligations.CalibrationLaws :=
  ⟨mac_constOne_zero, mac_constOne, mac_zero_right⟩

/-! ### GET_T and its sources (spec/30_encoding.md R95, spec/42_conversion.md R164) -/

/-- Settles O22: each source names its two registers. -/
theorem sourceSelectsTheOperands : Obligations.SourceSelectsTheOperands :=
  fun _ => ⟨rfl, rfl, rfl, rfl⟩

theorem exec_getTF (src : Src) (s : State) :
    exec (.getTF src) s = .next (s.writeResult (mac (tIn src s) constKF const32)) := rfl

theorem exec_getTK (src : Src) (s : State) : exec (.getTK src) s = .next (s.writeResult (addsat (tIn src s) constCK)) := rfl

/-- Settles O21: Celsius is an exact result, the other two scales a result that may saturate. -/
theorem getTWritesTheScaledTemperature : Obligations.GetTWritesTheScaledTemperature := by
  refine ⟨fun s src => exec_getTC src s, fun s src => ?fahrenheit, fun s src => ?kelvin⟩
  case fahrenheit => rw [exec_getTF, State.writeResult_eq]
  case kelvin => rw [exec_getTK, State.writeResult_eq]

/-! ### AH (spec/45_abs_humidity.md R191, R193) -/

theorem exec_ahMmhg (src : Src) (s : State) :
    exec (.ahMmhg src) s = .next (s.writeResult (ahMmHg s (tIn src s) (hIn src s))) := rfl

/-- Settles O32: Horner's rule unrolled over its five steps; the coefficient it starts from is exact. -/
theorem ahEstimateIsHornersRule : Obligations.AhEstimateIsHornersRule := by
  intro s t h
  simp only [ahMmHg, scaledKelvin, toKelvin, horner, SatFx.andThen, SatFx.exact, Bool.or_false, Bool.false_or, Bool.or_assoc]

/-- At humidity 0.0 the last multiplication leaves 0, whatever the polynomial. -/
theorem ahMmHg_value_of_humidity_zero (s : State) (t : Fx) : (ahMmHg s t 0).value = 0 := by
  rw [ahEstimateIsHornersRule, mac_zero_right, SatFx.exact_value]

/-- The constant polynomial 1.0 leaves the humidity itself. -/
theorem ahMmHg_value_of_poly_one (s : State) (t h : Fx) (h0 : s.poly0 = constOne) (h1 : s.poly1 = 0) (h2 : s.poly2 = 0)
    (h3 : s.poly3 = 0) (h4 : s.poly4 = 0) (h5 : s.poly5 = 0) : (ahMmHg s t h).value = h := by
  simp only [ahEstimateIsHornersRule s t h, h0, h1, h2, h3, h4, h5, mac_zero_left, SatFx.exact_value, mac_comm constOne,
    mac_constOne_zero]

/-- Settles O34: AH.MMHG writes the estimate to RES. -/
theorem ahCornerCases : Obligations.AhCornerCases := by
  refine ⟨fun s src _ hzero => ⟨_, exec_ahMmhg src s, ?humidityZero⟩,
    fun s src h0 h1 h2 h3 h4 h5 => ⟨_, exec_ahMmhg src s, ?polyOne⟩⟩
  case humidityZero => rw [State.writeResult_res, hzero, ahMmHg_value_of_humidity_zero]
  case polyOne => rw [State.writeResult_res, ahMmHg_value_of_poly_one s _ _ h0 h1 h2 h3 h4 h5]

/-! ### The tolerances (spec/46_tolerance.md R203, R204, R206) -/

/-- Settles O38: the bounds of the three kinds of tolerance. -/
theorem tolerancesNeverSaturate : Obligations.TolerancesNeverSaturate := by
  intro v x
  obtain ⟨hovfC, hvalueC⟩ := tolT_bounds v x
  obtain ⟨hovfF, hvalueF⟩ := tolTFahrenheit_bounds v x
  obtain ⟨hovfH, hvalueH⟩ := tolH_bounds v x
  exact ⟨hovfC, hvalueC, hovfF, hvalueF, hovfH, hvalueH⟩

/-- Settles O59: TOL_T.K and TOL_T.C write the same result, which does not saturate. -/
theorem kelvinToleranceIsTheCelsiusTolerance : Obligations.KelvinToleranceIsTheCelsiusTolerance := by
  intro s src g
  refine ⟨?value, by rw [exec_tolTK, exec_tolTC]⟩
  rw [exec_tolTK_eq_next, tolT_eq_mac]

end Sys2Proof.Machine
end

section
/-! The checksum as a linear code (spec/41_checksum.md section 2): the register's shifts are linear over XOR, so the CRC is
affine, and whether an error is seen depends on the error's own bits alone. -/

namespace Sys2Proof.Machine

/-! ### Linearity of the register (R150) -/

/-- The polynomial, where the bit that leaves the register is 1. -/
def crcFeedback (high : Bool) : Byte := if high then 0x31#8 else 0#8

theorem crcFeedback_xor (p q : Bool) : crcFeedback (p ^^ q) = crcFeedback p ^^^ crcFeedback q := by
  cases p <;> cases q <;> rfl

theorem crcShift_eq_xor (r : Byte) : crcShift r = r <<< 1 ^^^ crcFeedback (r.getLsbD 7) := by
  rw [crcShift, crcFeedback]
  split
  · rfl
  · rw [BitVec.xor_zero]

/-- The shift, the high bit and the feedback are each linear. -/
theorem crcShift_xor (a b : Byte) : crcShift (a ^^^ b) = crcShift a ^^^ crcShift b := by
  rw [crcShift_eq_xor, crcShift_eq_xor, crcShift_eq_xor, BitVec.shiftLeft_xor_distrib, BitVec.getLsbD_xor, crcFeedback_xor]
  ac_rfl

theorem crcShifts_xor (n : Nat) (a b : Byte) : crcShifts n (a ^^^ b) = crcShifts n a ^^^ crcShifts n b := by
  induction n generalizing a b with
  | zero => rfl
  | succ n ih => rw [crcShifts, crcShifts, crcShifts, crcShift_xor, ih]

/-- Taking in a byte is linear in the register and the byte together. -/
theorem crcByte_xor (r r' b b' : Byte) : crcByte (r ^^^ r') (b ^^^ b') = crcByte r b ^^^ crcByte r' b' := by
  rw [crcByte, crcByte, crcByte, ← crcShifts_xor]
  ac_rfl

/-- Settles O15: three registers that start at 0xFF start at 0xFF together, so the CRC of the sum is the sum of the CRCs. -/
theorem crcIsAffine : Obligations.CrcIsAffine := by
  intro a b x y
  have hstart : (0xFF#8 : Byte) = 0xFF#8 ^^^ 0xFF#8 ^^^ 0xFF#8 := by decide
  calc crc8 (a ^^^ x) (b ^^^ y)
      = crcByte (crcByte (0xFF#8 ^^^ 0xFF#8 ^^^ 0xFF#8) (a ^^^ x ^^^ 0)) (b ^^^ y ^^^ 0) := by
        simp [crc8]
    _ = crc8 a b ^^^ crc8 x y ^^^ crc8 0 0 := by
        rw [crcByte_xor, crcByte_xor, crcByte_xor, crcByte_xor, crc8, crc8, crc8]

/-! ### Errors of a group (R153) -/

/-- Two groups XORed byte by byte: a group with the errors of another. -/
def SensorGroup.xor (g e : SensorGroup) : SensorGroup := ⟨g.msb ^^^ e.msb, g.lsb ^^^ e.lsb, g.crc ^^^ e.crc⟩

/-- The error that flips bit `k` alone. -/
def oneBitError (k : Fin 24) : SensorGroup := groupOfWord (1#32 <<< k.val)

/-- How the received checksum byte of a group differs from the computed one. -/
def SensorGroup.discrepancy (g : SensorGroup) : Byte := g.computedCrc ^^^ g.crc

theorem SensorGroup.discrepancy_eq (g : SensorGroup) : g.discrepancy = crc8 g.msb g.lsb ^^^ g.crc := rfl

/-- What an error adds to the discrepancy of any group. -/
def SensorGroup.syndrome (e : SensorGroup) : Byte := crc8 0 0 ^^^ e.discrepancy

theorem groupOfWord_xor (v w : Word) : groupOfWord (v ^^^ w) = (groupOfWord v).xor (groupOfWord w) := by
  simp only [groupOfWord, SensorGroup.xor, BitVec.extractLsb'_xor]

/-- The three bytes of a buffer's word (spec/10_state.md R28, R29). -/
theorem SensorGroup.toWord_bytes (g : SensorGroup) :
    g.toWord.extractLsb' 16 8 = g.msb ∧ g.toWord.extractLsb' 8 8 = g.lsb ∧ g.toWord.extractLsb' 0 8 = g.crc := by
  refine ⟨?msb, ?lsb, ?crc⟩
  all_goals
    ext i hi
    simp only [SensorGroup.toWord, BitVec.getElem_extractLsb', BitVec.getLsbD_append]
    interval_cases i <;> simp

/-- Writing a buffer's own word keeps its group. -/
theorem groupOfWord_toWord (g : SensorGroup) : groupOfWord g.toWord = g := by
  obtain ⟨hmsb, hlsb, hcrc⟩ := g.toWord_bytes
  rw [groupOfWord, hmsb, hlsb, hcrc]

theorem SensorGroup.flipBit_eq_xor (g : SensorGroup) (k : Fin 24) : g.flipBit k = g.xor (oneBitError k) := by
  rw [SensorGroup.flipBit, groupOfWord_xor, groupOfWord_toWord, oneBitError]

theorem SensorGroup.discrepancy_xor (g e : SensorGroup) : (g.xor e).discrepancy = g.discrepancy ^^^ e.syndrome := by
  simp only [SensorGroup.syndrome, SensorGroup.discrepancy_eq]
  rw [SensorGroup.xor, crcIsAffine]
  generalize crc8 0 0 = c
  dsimp only
  ac_rfl

theorem SensorGroup.good_iff_discrepancy (g : SensorGroup) : g.good = true ↔ g.discrepancy = 0 := by
  rw [SensorGroup.good, decide_eq_true_iff, SensorGroup.discrepancy]
  exact BitVec.xor_eq_zero_iff.symm

/-- The syndromes of the 24 one-bit errors are different. -/
theorem syndrome_oneBitError_injective : Function.Injective fun k : Fin 24 => (oneBitError k).syndrome := by
  decide +kernel

theorem syndrome_oneBitError_ne_zero : ∀ k : Fin 24, (oneBitError k).syndrome ≠ 0 := by
  decide +kernel

/-- Settles O18: a good group has no discrepancy, one flipped bit leaves its own syndrome there, and a second one cancels it
only if it is the same bit. -/
theorem checksumDetectsOneAndTwoBitErrors : Obligations.ChecksumDetectsOneAndTwoBitErrors := by
  refine ⟨fun a b => decide_eq_true rfl, fun g k hg => ?one, fun g k l hkl hg => ?two⟩
  all_goals rw [Bool.eq_false_iff, ne_eq, SensorGroup.good_iff_discrepancy]
  all_goals have hzero := g.good_iff_discrepancy.mp hg
  case one =>
    rw [SensorGroup.flipBit_eq_xor, SensorGroup.discrepancy_xor, hzero, BitVec.ofNat_eq_ofNat, BitVec.zero_xor]
    exact syndrome_oneBitError_ne_zero k
  case two =>
    rw [SensorGroup.flipBit_eq_xor, SensorGroup.flipBit_eq_xor, SensorGroup.discrepancy_xor, SensorGroup.discrepancy_xor,
      hzero, BitVec.ofNat_eq_ofNat, BitVec.zero_xor, BitVec.xor_eq_zero_iff]
    exact fun heq => hkl (syndrome_oneBitError_injective heq)

/-! ### CRC_CHK (R152) -/

/-- CRC_CHK of a group writes its CRC to CRC_OUT and the comparison to CRC_OK, and keeps every other field. -/
theorem crcChk_eq (g : SensorGroup) (s : State) :
    crcChk g s = { s with crcOut := crc8 g.msb g.lsb,
                          status := { s.status with crcOk := decide (crc8 g.msb g.lsb = g.crc) } } := rfl

theorem exec_crcChkT (s : State) : exec .crcChkT s = .next (crcChk s.mbufT s) := rfl

theorem exec_crcChkH (s : State) : exec .crcChkH s = .next (crcChk s.mbufH s) := rfl

/-- Settles O17: both forms are `crcChk` of their own buffer, and the encodings are decoded by their opcode. -/
theorem crcChkWritesCrcOutAndCrcOk : Obligations.CrcChkWritesCrcOutAndCrcOk := by
  refine ⟨fun s => ?chkT, fun s => ?chkH, decode_assemble 0x02 0 0, decode_assemble 0x02 1 0⟩
  case chkT => rw [exec_crcChkT, crcChk_eq]
  case chkH => rw [exec_crcChkH, crcChk_eq]

end Sys2Proof.Machine
end

section
/-! FRAME as a whole next state (spec/44_frame.md R180), and FRAME twice. -/

namespace Sys2Proof.Machine

/-- Settles O26: the record of two good checks, and then the cached reading, whose two values are one `mac` each. -/
theorem frameCachesTheCalibratedReading : Obligations.FrameCachesTheCalibratedReading := by
  intro s ht hh
  have htemperature : frameTemperature s = mac (convT (s.mbufT.msb ++ s.mbufT.lsb)) s.caltF s.caltS := rfl
  have hhumidity : frameHumidity s = mac (convH (s.mbufH.msb ++ s.mbufH.lsb)) s.calhF s.calhS := rfl
  rw [exec_frame, frameEffect_of_good s ht hh, ← htemperature, ← hhumidity]
  rfl

/-- Recording the same checks and caching the same reading once more changes nothing: what was noted in OVF stays noted. -/
theorem State.cacheReading_again (s : State) (t h : SatFx) :
    (((s.recordChecks true true).cacheReading t h).recordChecks true true).cacheReading t h =
      (s.recordChecks true true).cacheReading t h := by
  simp [State.cacheReading, State.recordChecks, Status.noteChecks, Status.noteValid, Status.noteOverflow]

/-- FRAME reads neither what it caches nor what it records. -/
theorem frameEffect_frameEffect (s : State) : frameEffect (frameEffect s) = frameEffect s := by
  have keep := s.keepsInputs_frameEffect
  cases hgood : s.mbufT.good && s.mbufH.good with
  | true =>
    obtain ⟨ht, hh⟩ := Bool.and_eq_true_iff.mp hgood
    rw [frameEffect_of_good (frameEffect s) (by rwa [keep.mbufT]) (by rwa [keep.mbufH]), frameEffect_of_good s ht hh,
      frameTemperature_cacheReading, frameHumidity_cacheReading, State.cacheReading_again]
  | false =>
    have hbad := Bool.and_eq_false_iff.mp hgood
    rw [frameEffect_of_bad (frameEffect s) (by rwa [keep.mbufT, keep.mbufH]), frameEffect_of_bad s hbad]
    rfl

/-- Settles O29: FRAME's effect is idempotent. -/
theorem frameTwiceIsFrameOnce : Obligations.FrameTwiceIsFrameOnce := fun s =>
  ⟨frameEffect s, exec_frame s, by rw [exec_frame, frameEffect_frameEffect]⟩

end Sys2Proof.Machine
end

section
/-! Events and the window (spec/20_memory.md, spec/70_reset_and_hazards.md): reads, addresses, reset, and the step as a whole. -/

namespace Sys2Proof.Machine

/-! ### Every step answers (spec/60_exceptions.md R237) -/

theorem regWrite_answers (off : Offset) (v : Word) (s : State) : ∃ t, regWrite off v s = .next t := by
  rcases regWrite_cases off v s with ⟨_, _, h⟩ | ⟨_, i, _, h⟩ | ⟨_, h⟩
  · exact ⟨_, h⟩
  · rw [h]
    exact exec_answers i _
  · exact ⟨_, h⟩

theorem busAccess_answers (off : Offset) (a : Access) (s : State) : ∃ t, busAccess off a s = .next t := by
  rcases busAccess_cases off a s with ⟨_, h⟩ | ⟨_, _, h⟩ | ⟨v, _, _, h⟩
  · exact ⟨_, h⟩
  · exact ⟨_, h⟩
  · obtain ⟨t, ht⟩ := regWrite_answers off v s
    exact ⟨_, by rw [h, ht, onNext_next]⟩

/-- Settles O57: an event is served by an answer of its own or by a bus access, which answers. -/
theorem everyStepAnswersANextState : Obligations.EveryStepAnswersANextState := by
  refine ⟨fun s => ?_, step_idle⟩
  rcases step_cases s with ⟨_, h⟩ | ⟨e, rest, _, ⟨_, h⟩ | ⟨_, h⟩ | ⟨_, _, _, h⟩ | ⟨t, off, _, _, _, h⟩⟩
  · exact ⟨_, h⟩
  · exact ⟨_, h⟩
  · exact ⟨_, h⟩
  · exact ⟨_, h⟩
  · rw [h]
    exact busAccess_answers off t.access _

/-- Settles O7: a write to CMD stores its word and runs it. -/
theorem stepRunsTheDecodedCommand : Obligations.StepRunsTheDecodedCommand := by
  intro s w i rest hd
  rw [commandWrite_eq, step_facing_cmd_write, runCommand_of_ok w i _ hd]
  rfl

/-! ### Reset (spec/70_reset_and_hazards.md R260, R261) -/

/-- Settles O50: the three events are served by `assertReset`, by no answer, and by `releaseReset`. -/
theorem resetInputResetsEveryRegister : Obligations.ResetInputResetsEveryRegister := by
  refine ⟨fun s _ rest => ⟨State.assertReset { s with host := rest }, rfl, rfl, rfl, rfl⟩, fun s tr rest hr => ?_, fun _ _ => rfl⟩
  rw [step_event _ _ rest rfl]
  exact serveTransaction_in_reset tr _ hr

/-! ### Host addresses (spec/20_memory.md R60) -/

/-- A place that reaches an offset is served as the access at that offset. -/
theorem step_facing_of_toOffset (s : State) (p : Place) (off : Offset) (a : Access) (rest : List HostEvent)
    (h : p.toOffset = some off) :
    step (s.facing (.transaction ⟨p, a⟩) rest) = step (s.facing (atOffset off a) rest) := by
  rw [step_facing_atOffset, step_event _ _ rest rfl]
  simp [serveEvent, serveTransaction, State.facing, h]

/-- A place outside the window is not answered. -/
theorem step_facing_of_toOffset_none (s : State) (p : Place) (a : Access) (rest : List HostEvent) (h : p.toOffset = none) :
    step (s.facing (.transaction ⟨p, a⟩) rest) = .next { s with host := rest, answer := none, resetAsserted := false } := by
  rw [step_event _ _ rest rfl]
  simp [serveEvent, serveTransaction, State.facing, State.giveNoAnswer, h]

/-- Settles O48: the window's two bounds decide what an address reaches. -/
theorem hostAddressReachesTheWindow : Obligations.HostAddressReachesTheWindow := by
  intro s a acc rest
  refine ⟨fun hlow hhigh => ?inside, fun houtside => ?outside⟩
  case inside => exact step_facing_of_toOffset s (.address a) _ acc rest (if_pos ⟨hlow, hhigh⟩)
  case outside =>
    have hnot : ¬ (Config.base ≤ a ∧ a < Config.base + Config.windowSize) := by
      rw [Config.windowSize]
      omega
    exact step_facing_of_toOffset_none s (.address a) acc rest (if_neg hnot)

/-! ### The register map (spec/20_memory.md R61) -/

/-- The reserved ranges of the window. -/
theorem busWord_reserved (off : Offset) (hal : off.toNat % 4 = 0)
    (h : off.toNat = 0x01C ∨ (0x068 ≤ off.toNat ∧ off.toNat ≤ 0x07C) ∨ 0x0B0 ≤ off.toNat) : busWord off = .reserved := by
  unfold busWord
  split
  case h_38 => rfl
  all_goals omega

/-- Settles O41: the named words evaluate, and no row of the map is in a reserved range. -/
theorem registerMapIsTheTable : Obligations.RegisterMapIsTheTable :=
  ⟨rfl, rfl, rfl, rfl, rfl, busWord_reserved⟩

/-! ### Reads (spec/20_memory.md R65, R69) -/

/-- Every register of the window that is one value: all but STATUS and CFG, each 64-bit register as its two words. -/
def valueWords : List BusWord :=
  [.id, .cmd, .mbufT, .mbufH, .crcOut] ++
    [FxReg.opa, .opb, .res, .temp, .rh, .caltF, .caltS, .calhF, .calhS, .poly0, .poly1, .poly2, .poly3, .poly4, .poly5].flatMap
      fun r => [.lo r, .hi r]

/-- A read of any of them at its own offset answers its current bits. -/
theorem step_facing_read_valueWords (s : State) (rest : List HostEvent) :
    ∀ p ∈ valueWords.map fun b => (b.offset, s.readWord b),
      step (s.facing (atOffset p.1 (.read 4)) rest) = .next (s.answered rest (.read p.2 .okay)) := by
  intro p hp
  obtain ⟨b, _, rfl⟩ := List.mem_map.mp hp
  exact step_facing_read_offset s b rest

/-- Each flag at its bit of STATUS (spec/10_state.md R23). -/
theorem Status.toWord_flags (st : Status) :
    st.toWord.getLsbD 0 = st.crcOk ∧ st.toWord.getLsbD 1 = st.tOk ∧ st.toWord.getLsbD 2 = st.hOk ∧
      st.toWord.getLsbD 3 = st.upd ∧ st.toWord.getLsbD 4 = st.valid ∧ st.toWord.getLsbD 8 = st.ovf ∧
      st.toWord.getLsbD 9 = st.err := by
  simp only [Status.toWord, BitVec.getLsbD_append, flagBit]
  simp

/-- VARIANT in bits 1:0 of CFG (spec/10_state.md R26). -/
theorem CfgReg.toWord_variant (c : CfgReg) : c.toWord.extractLsb' 0 2 = c.variant.bits := by
  ext i hi
  simp only [CfgReg.toWord, BitVec.getElem_extractLsb', BitVec.getLsbD_append]
  simp [hi]

/-- LOCK in bit 8 of CFG (spec/10_state.md R26). -/
theorem CfgReg.toWord_lock (c : CfgReg) : c.toWord.getLsbD 8 = c.lock := by
  simp only [CfgReg.toWord, BitVec.getLsbD_append, flagBit]
  simp

/-- Settles O40: a read answers the word at its offset; the words of the table are the registers' own, and those of STATUS and
CFG have their fields at their bits. -/
theorem readAnswersTheWordAndChangesNothing : Obligations.ReadAnswersTheWordAndChangesNothing := by
  refine ⟨step_facing_read, step_facing_read_valueWords, fun s rest => ?status, fun s rest => ?cfg,
    fun _ => rfl⟩
  case status =>
    obtain ⟨hcrcOk, htOk, hhOk, hupd, hvalid, hovf, herr⟩ := s.status.toWord_flags
    exact ⟨_, step_facing_read s 0x008 rest rfl, hcrcOk, htOk, hhOk, hupd, hvalid, hovf, herr, s.status.toWord_reserved⟩
  case cfg =>
    have hbits : ∀ v : Variant, s.cfg.variant = v → s.cfg.toWord.extractLsb' 0 2 = v.bits := fun v hv => by
      rw [CfgReg.toWord_variant, hv]
    exact ⟨_, step_facing_read s 0x00C rest rfl, hbits _, hbits _, hbits _, s.cfg.toWord_lock, s.cfg.toWord_reserved⟩

/-! ### The buffers (spec/10_state.md R28, R29; spec/20_memory.md R67) -/

/-- A buffer reads back what was written without bits 31:24. -/
theorem toWord_groupOfWord (v : Word) : (groupOfWord v).toWord = v &&& 0x00FFFFFF := by
  apply BitVec.eq_of_getLsbD_eq
  intro i hi
  simp only [groupOfWord, SensorGroup.toWord, BitVec.getLsbD_append, BitVec.getLsbD_extractLsb', BitVec.getLsbD_and]
  interval_cases i <;> simp

/-- The raw word is bits 23:8 of what was written. -/
theorem groupOfWord_raw (v : Word) : (groupOfWord v).raw = v.extractLsb' 8 16 := by
  rw [groupOfWord, SensorGroup.raw]
  exact BitVec.extractLsb'_append_extractLsb'_eq_extractLsb' (by decide)

/-- The first byte received is the more significant one. -/
theorem SensorGroup.raw_toNat (g : SensorGroup) : g.raw.toNat = g.msb.toNat * 256 + g.lsb.toNat := by
  have hlsb : g.lsb.toNat < 2 ^ 8 := g.lsb.isLt
  rw [SensorGroup.raw, BitVec.toNat_append, ← Nat.shiftLeft_add_eq_or_of_lt hlsb, Nat.shiftLeft_eq]

/-- Settles O47: both buffers have one write rule, `groupOfWord`. -/
theorem bufferHoldsTheGroup : Obligations.BufferHoldsTheGroup := by
  refine ⟨fun s off v rest hal hb => ?_, fun s v rest => ⟨step_facing_writeWord s 0x010 v rest rfl (by decide),
      step_facing_writeWord s 0x014 v rest rfl (by decide)⟩,
    fun s v => ⟨toWord_groupOfWord v, toWord_groupOfWord v, groupOfWord_raw v, groupOfWord_raw v, s.mbufT.raw_toNat,
      s.mbufH.raw_toNat⟩⟩
  exact step_facing_writeWord s off v rest hal fun hcmd => absurd (hcmd ▸ hb) (by decide)

end Sys2Proof.Machine
end
